-- ==== Sys2Proof/Word.lean ====
section
/-! DEFINITION. The word types of BPDC. There is no byte and no address: the only words are the command word, its operand
field, the 7-bit segment pattern and the 16-bit frame (00_scope.md R12). -/

namespace Sys2Proof

/-- A segment pattern `p[6:0]` (30_encoding.md R65): segment index `i` is bit `p[6-i]`. -/
abbrev Pattern := BitVec 7

/-- A frame, 16 bits (30_encoding.md R64): `{frameA[6:0], frameB[6:0], minus, celsius}`. -/
abbrev Frame := BitVec 16

/-- A command word `cmd[10:0]` (30_encoding.md R60). -/
abbrev CmdWord := BitVec 11

/-- The operand field `ARG` of a command word, bits 7:0 (30_encoding.md R60). -/
abbrev Arg := BitVec 8

end Sys2Proof
end

