-- ==== Sys2Proof/Config.lean ====
section
/-! DEFINITION. What an implementation of BPDC fixes (00_scope.md section 5, R5 to R9), the environment's parameters
(20_memory.md R48), and the free values the spec leaves open. Every `opaque` constant below has no body: no proof can see
its value, so a theorem about it holds whatever it is. -/

namespace Sys2Proof

/-- `AF`, the animation frame count, is 6 or 12 (00_scope.md R6). -/
inductive AnimCount where
  | six
  | twelve
deriving DecidableEq, Repr, Inhabited

/-- `AF` as a number. -/
def AnimCount.count : AnimCount → Nat
  | .six => 6
  | .twelve => 12

/-- A Digit Table: one 7-bit entry for each index `0 .. 11+AF` (R5, 20_memory.md R40, R41). -/
abbrev DigitTable (af : AnimCount) := Vector Pattern (12 + af.count)

/-- What R5 requires of a Digit Table: entry 10 is blank, and the entries 0..9 are pairwise different. -/
abbrev DigitTable.Legal {af : AnimCount} (t : DigitTable af) : Prop :=
  t[10]'(by omega) = 0#7 ∧
    ∀ d e : Fin 10, t[d.val]'(by omega) = t[e.val]'(by omega) → d = e

/-- The record `Config` of 00_scope.md section 5, with the defaults R7 and R9 give. `DT1`, `DT2` and `AF` have none. -/
structure Config where
  /-- `AF` (R6). -/
  af : AnimCount
  /-- `DT1`, the table of position 1, tens, left (R5). -/
  dt1 : DigitTable af
  /-- `DT2`, the table of position 2, ones, right (R5). -/
  dt2 : DigitTable af
  /-- `POL`, the data polarity flag (R7). -/
  pol : Bool := false
  /-- `T_HALF` (R9). -/
  tHalf : Nat := 5
  /-- `T_SETUP` (R9). -/
  tSetup : Nat := 1
  /-- `T_LSETTLE` (R9). -/
  tLSettle : Nat := 4
  /-- `T_LHIGH` (R9). -/
  tLHigh : Nat := 8
  /-- `T_LFINAL` (R9). -/
  tLFinal : Nat := 4
deriving DecidableEq, Repr

/-- The constraints on a `Config`: both tables legal (R5), every timing value at least 1 (R9). `AF` is 6 or 12 by its
type and the tables have `12 + AF` entries by theirs. -/
abbrev Config.Legal (c : Config) : Prop :=
  c.dt1.Legal ∧ c.dt2.Legal ∧
    1 ≤ c.tHalf ∧ 1 ≤ c.tSetup ∧ 1 ≤ c.tLSettle ∧ 1 ≤ c.tLHigh ∧ 1 ≤ c.tLFinal

/-- A `Config` that meets its constraints, used only to show that legal ones exist (Lean asks for one before it accepts
the opaque constant `Config.chip`). No definition of the machine reads it. -/
def Config.inhabitant : Config where
  af := .six
  dt1 := #v[1, 2, 3, 4, 5, 6, 7, 8, 9, 10, 0, 0, 0, 0, 0, 0, 0, 0]
  dt2 := #v[1, 2, 3, 4, 5, 6, 7, 8, 9, 10, 0, 0, 0, 0, 0, 0, 0, 0]

/-- A `Config` together with the proof that it is legal: the machine has no other. 60_exceptions.md R139 and
93_implementation_defined.md U17: "the model refuses such a `Config`" of one that breaks its constraints. -/
structure LegalConfig where
  /-- The record itself. -/
  config : Config := Config.inhabitant
  /-- It meets its constraints. -/
  legal : config.Legal := by decide
deriving DecidableEq, Repr, Inhabited

/-- The refusal of an illegal `Config` (R139, U17): `none` where a constraint is broken. -/
def Config.check (c : Config) : Option LegalConfig :=
  if h : c.Legal then some ⟨c, h⟩ else none

/-- A direction of a level change: `RISE` from 0 to 1, `FALL` from 1 to 0 (20_memory.md R48). -/
inductive Edge where
  | rise
  | fall
deriving DecidableEq, Repr, Inhabited

/-- The reference receiver behind the three lines (20_memory.md R48): its two parameters and its two registers, which
hold wire levels (1 = high). An environment assumption, no part of BPDC. -/
structure Receiver where
  /-- `RX.sample`: the CLOCK edge that shifts. -/
  sample : Edge
  /-- `RX.commit`: the LATCH edge that copies `SR` to `OUT`. -/
  commit : Edge
  /-- `SR[15:0]`, the shift register. -/
  sr : BitVec 16
  /-- `OUT[15:0]`, the parallel output register that drives the segments. -/
  out : BitVec 16
deriving DecidableEq, Repr, Inhabited

/-- DESIGN CHOICE, safe (notes/assumptions/2.md): the `Config` of the machine that `State.reset` describes. Any legal one:
the spec gives no table contents and leaves every parameter open (92_eei_decisions.md D4 to D8). -/
opaque Config.chip : LegalConfig

/-- DESIGN CHOICE, safe (notes/assumptions/8.md): the reference receiver at power-up, its parameters and contents unknown
(20_memory.md R48, 93_implementation_defined.md U2, U11). -/
opaque Config.receiverAtPowerUp : Receiver

/-- DESIGN CHOICE, safe (notes/assumptions/6.md): `FR` after the RESET case, "unspecified" (41_serial_line_driver.md R108,
10_state.md R22), for the clock edge with the given index. -/
opaque Config.frAfterReset : Nat → Frame

/-- DESIGN CHOICE, safe (notes/assumptions/9.md): the bit the receiver shifts in where DATA changed at the boundary it
samples, "an unconstrained draw (0 or 1)" (20_memory.md R49), for the clock edge with the given index. -/
opaque Config.racedDataBit : Nat → Bool

/-- DESIGN CHOICE, safe (notes/assumptions/11.md): what `SR` holds while it is to be treated as any value
(70_reset_and_hazards.md R158), in the interval before the clock edge with the given index. -/
opaque Config.srWhenUnknown : Nat → BitVec 16

/-- DESIGN CHOICE, safe (notes/assumptions/11.md): the same for `OUT`. -/
opaque Config.outWhenUnknown : Nat → BitVec 16

end Sys2Proof
end

