-- ==== Sys2Proof/Syntax.lean ====
section
/-! DEFINITION. The instructions of BPDC: the five Display Commands, one constructor per row of spec/opcode_table.json.
An operand is held as the raw field `ARG`; what it stands for, and whether it is legal, is said where it is read
(Machine/Operands.lean). BLANK and DASHES ignore `ARG` (30_encoding.md R68), so they carry none. -/

namespace Sys2Proof

/-- The Display Commands (30_encoding.md R61). -/
inductive Instr where
  /-- `BLANK` (aliases `OFF`, `UNAVAIL`), 40_frame_encoder.md R83. -/
  | blank
  /-- `DASHES` (alias `NOLINK`), R84. -/
  | dashes
  /-- `ERR n` with `n = zext_8(code)`, R85. -/
  | err (code : Arg)
  /-- `INT v` with `v = sext_8(value)`, R86. -/
  | int (value : Arg)
  /-- `ANIM i` with `i = zext_8(idx)`, R87. -/
  | anim (idx : Arg)
deriving DecidableEq, Repr

end Sys2Proof
end

