-- ==== Sys2Proof/WellFormed.lean ====
section
/-! DEFINITION. When a Display Command is well formed: its operand lies in the domain the opcode table and 30_encoding.md
R62, R63 give it. A command that is not well formed is no error of the model: the machine takes the reject the spec names
(60_exceptions.md R130). -/

namespace Sys2Proof

/-- The legal operands: ERR 0..99, INT -99..99, ANIM 0..AF-1; BLANK and DASHES have no operand. -/
def WellFormed (af : AnimCount) : Instr → Bool
  | .blank => true
  | .dashes => true
  | .err code => decide (code.toNat ≤ 99)
  | .int value => decide (-99 ≤ value.toInt ∧ value.toInt ≤ 99)
  | .anim idx => decide (idx.toNat < af.count)

end Sys2Proof
end

