-- ==== Sys2Proof/Decode.lean ====
section
/-! DEFINITION. The command word: `Decode`'s reading of `OP` and `ARG` (30_encoding.md R60, R61), total on all 2048 words,
and the encoder written from the same table. The operand ranges of R61 are checked where the operand is read
(Machine/Operands.lean), because each is the reject of one instruction (R85 to R87). -/

namespace Sys2Proof

/-- Why a word is no instruction: `OP` in 5, 6, 7 is reserved (R61, R67). -/
inductive DecodeError where
  /-- A reserved value of `OP`; the machine rejects the word with cause 2. -/
  | reservedOp (op : BitVec 3)
deriving DecidableEq, Repr

/-- `OP`, bits 10:8 (R60). -/
def opField (w : CmdWord) : BitVec 3 := w.extractLsb' 8 3

/-- `ARG`, bits 7:0 (R60). -/
def argField (w : CmdWord) : Arg := w.extractLsb' 0 8

/-- The instruction a command word stands for (R61); a reserved `OP` is refused by name. -/
def decode (w : CmdWord) : Except DecodeError Instr :=
  if opField w = 0b000#3 then .ok .blank
  else if opField w = 0b001#3 then .ok .dashes
  else if opField w = 0b010#3 then .ok (.err (argField w))
  else if opField w = 0b011#3 then .ok (.int (argField w))
  else if opField w = 0b100#3 then .ok (.anim (argField w))
  else .error (.reservedOp (opField w))

/-- The value of `OP` for each command (R61). -/
def opcode : Instr → BitVec 3
  | .blank => 0b000#3
  | .dashes => 0b001#3
  | .err _ => 0b010#3
  | .int _ => 0b011#3
  | .anim _ => 0b100#3

/-- The value of `ARG` for each command; BLANK and DASHES in their canonical form, `ARG = 0` (R68). -/
def operandField : Instr → Arg
  | .blank => 0#8
  | .dashes => 0#8
  | .err code => code
  | .int value => value
  | .anim idx => idx

/-- The word of a command, in the format `CMD` (R60). -/
def encode (i : Instr) : CmdWord := opcode i ++ operandField i

/-- A word given as a number of `nbits` bits, bit 0 the least significant. The command port has eleven wires (10_state.md
R31), so bits above bit 10 reach nothing (DEDUCED, notes/assumptions/17.md). -/
def tableWord (nbits w : Nat) : CmdWord := BitVec.ofNat 11 (w % 2 ^ nbits)

/-- The instruction the decoder reads from such a word. -/
def decodeTableWord (nbits w : Nat) : Option Instr :=
  match decode (tableWord nbits w) with
  | .ok i => some i
  | .error _ => none

end Sys2Proof
end

