-- ==== Sys2Proof/Machine/State.lean ====
section
/-! DEFINITION. The state of the machine (10_state.md R20), the reasons it can stop, and the state right after reset (R32).
Beside the spec's tuple `S` the record holds what the spec hands to `Step` as arguments (`Config` and the port inputs, R21,
R108) and the environment's receiver (20_memory.md R48), because the host's step takes a state and nothing else
(DESIGN CHOICE, notes/assumptions/1.md). -/

namespace Sys2Proof.Machine

/-- The phase `ph` of the sequencer (10_state.md R23). -/
inductive Phase where
  /-- No render in progress. -/
  | idle
  /-- Step 1: LATCH driven low, settling. -/
  | lsettle
  /-- DATA set for the current bit, setup delay. -/
  | setup
  /-- First half of the clock pulse, CLOCK released. -/
  | chigh
  /-- Second half, CLOCK driven low. -/
  | clow
  /-- Step 6: LATCH released and held. -/
  | lhigh
  /-- Step 6: LATCH driven low again and held. -/
  | lfinal
deriving DecidableEq, Repr

/-- The three lines (R26). -/
inductive Line where
  | clock
  | data
  | latch
deriving DecidableEq, Repr

/-- A Line State (R26): driven low, or released. BPDC never drives a line high. -/
inductive LineState where
  /-- `LOW`, driven-low. -/
  | low
  /-- `Z`, released, high-impedance. -/
  | z
deriving DecidableEq, Repr

/-- The reject causes 1 to 4 (60_exceptions.md R130); cause 0, `NONE`, is no reject. -/
inductive Cause where
  /-- 1, `E_RANGE`: an INT operand outside -99..99. -/
  | range
  /-- 2, `E_OP`: `OP` in 5, 6, 7. -/
  | op
  /-- 3, `E_CODE`: an ERR operand above 99. -/
  | code
  /-- 4, `E_ANIM`: an ANIM operand not below `AF`. -/
  | anim
deriving DecidableEq, Repr

/-- The input ports at one active edge of `clk` (10_state.md R31). -/
structure PortInput where
  /-- Synchronous reset, active high. -/
  rst : Bool
  /-- The time-unit enable: an edge with `tick` and without `rst` is one tick. -/
  tick : Bool
  /-- HOST presents a command word. -/
  cmdValid : Bool
  /-- The command word. -/
  cmd : CmdWord
deriving DecidableEq, Repr

/-- The reasons the machine can stop with a fault. -/
inductive Fault where
  /-- Raised by the sequencer (Machine/Driver.lean) in a state with `ph != IDLE` and `cnt = 0`, for which
  41_serial_line_driver.md R108 lists no case ("unreachable"). Safe: the machine stops where the spec says nothing
  (notes/assumptions/14.md). -/
  | sequencerStuck
deriving DecidableEq, Repr

/-- The reasons an instruction can be refused. -/
inductive Refusal where
  /-- Raised by an arm of `exec` whose instruction has no meaning yet; no arm does. Safe. -/
  | notModelled (mnemonic : String)
deriving DecidableEq, Repr

/-- The whole state. -/
structure State where
  /-- `ph` (R23). -/
  ph : Phase
  /-- `bit`, the index of the bit in transmission, 0 first (R24). -/
  bit : Fin 16
  /-- `cnt`, the time units the phase still has to last (R25). -/
  cnt : Nat
  /-- `FR`, the frame register (R22). -/
  fr : Frame
  /-- `L(CLOCK)` (R26). -/
  clockLine : LineState
  /-- `L(DATA)` (R26). -/
  dataLine : LineState
  /-- `L(LATCH)` (R26). -/
  latchLine : LineState
  /-- `FAULT` (R27). -/
  fault : Bool
  /-- `CAUSE[2:0]` (R27). -/
  cause : BitVec 3
  /-- `Config`, an argument of the spec's `Step` (R21); no step changes it. -/
  cfg : LegalConfig
  /-- What HOST puts on the input ports, one entry per coming clock edge (R31; DESIGN CHOICE, notes/assumptions/3.md). -/
  inputs : List PortInput
  /-- The reference receiver behind the lines (20_memory.md R48), the environment's. -/
  rx : Receiver
  /-- The real receiver's contents are to be treated as any value: from power-up, or from a reset during a render, until
  the next render has completed (70_reset_and_hazards.md R151, R158). The model's own field (notes/assumptions/11.md). -/
  rxUnknown : Bool
  /-- The index of the free values of the coming clock edge. The model's own field (notes/assumptions/7.md). -/
  draws : Nat
deriving DecidableEq, Repr

/-- The state right after reset (10_state.md R32, 70_reset_and_hazards.md R150), at power-up of the environment. `fr` is 0
where the spec says "unspecified" (DESIGN CHOICE, unsafe, notes/assumptions/5.md); `cfg` and `rx`, which reset does not
touch (R151), are opaque constants; HOST presents nothing yet (notes/assumptions/3.md, 4.md). -/
def State.reset : State where
  ph := .idle
  bit := 0
  cnt := 0
  fr := 0#16
  clockLine := .z
  dataLine := .z
  latchLine := .z
  fault := false
  cause := 0#3
  cfg := Config.chip
  inputs := []
  rx := Config.receiverAtPowerUp
  rxUnknown := true
  draws := 0

end Sys2Proof.Machine
end

