-- ==== Sys2Proof/Machine/Flags.lean ====
section
/-! DEFINITION. The flags: the encoder's `minus` (10_state.md R29) and the derived status `busy` and `cmd_ready` (R28). There
are no carry, zero, overflow or predicate flags (R29). `celsius` is a constant of each command (40_frame_encoder.md R82). -/

namespace Sys2Proof.Machine

/-- `minus = (v < 0)` (40_frame_encoder.md R86). -/
def minusFlag (v : Int) : Bool := decide (v < 0)

/-- `busy = (ph != IDLE)` (10_state.md R28). -/
def State.busy (s : State) : Bool := decide (s.ph ≠ .idle)

/-- `cmd_ready = (ph = IDLE)` (R28). -/
def State.cmdReady (s : State) : Bool := decide (s.ph = .idle)

end Sys2Proof.Machine
end

