-- ==== Sys2Proof/Machine/Operands.lean ====
section
/-! DEFINITION. The operands of the Display Commands: how `ARG` is read (00_scope.md section 6), which operands a command
rejects (30_encoding.md R61 to R63), and the index multiplexer (40_frame_encoder.md R82) with its two flags
(Machine/Flags.lean). -/

namespace Sys2Proof.Machine

/-- `zext_8`: an operand as a natural number 0..255. -/
def zext8 (arg : Arg) : Nat := arg.toNat

/-- `sext_8`: an operand as a two's-complement integer -128..127 (30_encoding.md R62). -/
def sext8 (arg : Arg) : Int := arg.toInt

/-- An index of a Digit Table, `0 .. 11+AF` (20_memory.md R41); no other can be written (R42). -/
abbrev TableIndex (af : AnimCount) := Fin (12 + af.count)

/-- The index of the numeral `d` (R41). -/
def numeralIndex {af : AnimCount} (d : Nat) (h : d ≤ 9) : TableIndex af := ⟨d, by omega⟩

/-- `BLANK = 10` (R41). -/
def blankIndex {af : AnimCount} : TableIndex af := ⟨10, by omega⟩

/-- `MINUS = 11`, the minus glyph (R41). -/
def minusIndex {af : AnimCount} : TableIndex af := ⟨11, by omega⟩

/-- `ANIM0 + i`, the animation frame `i` (R41). -/
def animIndex {af : AnimCount} (i : Nat) (h : i < af.count) : TableIndex af := ⟨12 + i, by omega⟩

/-- `n div 10` (40_frame_encoder.md R90). -/
def tensDigit (n : Nat) : Nat := n / 10

/-- `n mod 10` (R90). -/
def onesDigit (n : Nat) : Nat := n % 10

theorem tensDigit_le {n : Nat} (h : n ≤ 99) : tensDigit n ≤ 9 := by unfold tensDigit; omega

theorem onesDigit_le (n : Nat) : onesDigit n ≤ 9 := by unfold onesDigit; omega

/-- `i < AF`, decided without looking at `AF` where both of its values agree: below 6 always, from 12 on never. -/
def belowAnimCount (af : AnimCount) (i : Nat) : Bool :=
  decide (i < 6) || (decide (i < 12) && decide (af = .twelve))

theorem belowAnimCount_iff (af : AnimCount) (i : Nat) : belowAnimCount af i = true ↔ i < af.count := by
  cases af <;> simp [belowAnimCount, AnimCount.count]; omega

/-- What the multiplexer hands on (R82): one index for each position and the two flags. -/
structure Selection (af : AnimCount) where
  /-- The index into `DT1`, position 1. -/
  idxA : TableIndex af
  /-- The index into `DT2`, position 2. -/
  idxB : TableIndex af
  /-- The minus flag. -/
  minus : Bool
  /-- The celsius flag. -/
  celsius : Bool
deriving DecidableEq, Repr

end Sys2Proof.Machine
end

