-- ==== Sys2Proof/Machine/Ops.lean ====
section
/-! DEFINITION. The operations over the state that the commands and the driver share: the line primitives
(41_serial_line_driver.md R100 to R102), the start of a render (R108, ACCEPT), a table read (20_memory.md R40), and taking
the one exception BPDC has, the reject (60_exceptions.md R134). There is no return from it: nothing is saved and nothing is
left (R135). -/

namespace Sys2Proof.Machine

/-- `L(X)`, read (10_state.md R26). -/
def State.line (s : State) : Line → LineState
  | .clock => s.clockLine
  | .data => s.dataLine
  | .latch => s.latchLine

/-- `L(X) <- v`. -/
def State.setLine (s : State) (X : Line) (v : LineState) : State :=
  { s with
    clockLine := match X with
      | .clock => v
      | .data => s.clockLine
      | .latch => s.clockLine
    dataLine := match X with
      | .clock => s.dataLine
      | .data => v
      | .latch => s.dataLine
    latchLine := match X with
      | .clock => s.latchLine
      | .data => s.latchLine
      | .latch => v }

/-- `driveLow(X)` (41_serial_line_driver.md R100). -/
def State.driveLow (s : State) (X : Line) : State := s.setLine X .low

/-- `release(X)` (R101). -/
def State.release (s : State) (X : Line) : State := s.setLine X .z

/-- The polarity rule (R102): the Line State DATA takes for the logical bit `b`, `Z` if `b xor POL` is 1. -/
def dataState (pol b : Bool) : LineState := if (b ^^ pol) = true then .z else .low

/-- `FR[15-k]`, the `k`-th bit in transmission order (20_memory.md R44). -/
def frameBit (fr : Frame) (k : Nat) : Bool := fr.getLsbD (15 - k)

/-- `L(DATA) <- setDataBit(FR[15-k])` (R102, R106). -/
def State.setDataBit (s : State) (k : Nat) : State :=
  s.setLine .data (dataState s.cfg.config.pol (frameBit s.fr k))

/-- `ph <- p; cnt <- n`: the sequencer enters a phase with its hold (10_state.md R25). -/
def State.enter (s : State) (p : Phase) (n : Nat) : State := { s with ph := p, cnt := n }

/-- ACCEPT (41_serial_line_driver.md R108): the frame is captured, LATCH is driven low, the sequencer starts. -/
def State.startRender (s : State) (frame : Frame) : State :=
  (State.driveLow { s with fr := frame, bit := 0 } .latch).enter .lsettle s.cfg.config.tLSettle

/-- The cause code (60_exceptions.md R130). -/
def Cause.number : Cause → BitVec 3
  | .range => 1#3
  | .op => 2#3
  | .code => 3#3
  | .anim => 4#3

/-- TAKING THE EXCEPTION: `raise Reject(c)` (60_exceptions.md R134). The first reject since reset is recorded, a later one
changes nothing; no other state changes, no handler is entered and no render starts. -/
def State.raiseReject (s : State) (c : Cause) : State :=
  if s.fault = true then s else { s with fault := true, cause := c.number }

/-- A table read, `DTp[i]` (20_memory.md R40): always one whole 7-bit entry. -/
def tableRead {af : AnimCount} (t : DigitTable af) (i : Fin (12 + af.count)) : Pattern := t[i.val]'i.isLt

end Sys2Proof.Machine
end

