-- ==== Sys2Proof/Machine/Encoder.lean ====
section
/-! DEFINITION. ENC, the Frame Encoder (40_frame_encoder.md): what each command selects or why it is rejected (R82, R83 to
R87, 30_encoding.md R61), the two table reads, and the packed frame (30_encoding.md R64). A pure function of the command and
of `Config` (R81); no step of its own. -/

namespace Sys2Proof.Machine

/-- BLANK (R83): the blank entry in both positions, both flags 0. -/
def selectBlank (af : AnimCount) : Except Cause (Selection af) :=
  .ok { idxA := blankIndex, idxB := blankIndex, minus := false, celsius := false }

/-- DASHES (R84): the minus glyph in both positions, both flags 0. -/
def selectDashes (af : AnimCount) : Except Cause (Selection af) :=
  .ok { idxA := minusIndex, idxB := minusIndex, minus := false, celsius := false }

/-- ERR n (R85): the two digits of the code, with no leading-zero suppression, both flags 0; above 99 cause 3. -/
def selectErr (af : AnimCount) (arg : Arg) : Except Cause (Selection af) :=
  if h : zext8 arg ≤ 99 then
    .ok
      { idxA := numeralIndex (tensDigit (zext8 arg)) (tensDigit_le h)
        idxB := numeralIndex (onesDigit (zext8 arg)) (onesDigit_le _)
        minus := false
        celsius := false }
  else .error .code

/-- The index position 1 shows for a tens digit: blank instead of a leading zero (R86). -/
def suppressedTens {af : AnimCount} (t : Nat) (h : t ≤ 9) : TableIndex af :=
  if t = 0 then blankIndex else numeralIndex t h

/-- INT v (R86): the digits of the magnitude, the leading zero suppressed, `minus` the sign, `celsius` 1; outside -99..99
cause 1. -/
def selectInt (af : AnimCount) (arg : Arg) : Except Cause (Selection af) :=
  if h : -99 ≤ sext8 arg ∧ sext8 arg ≤ 99 then
    .ok
      { idxA := suppressedTens (tensDigit (sext8 arg).natAbs) (tensDigit_le (by omega))
        idxB := numeralIndex (onesDigit (sext8 arg).natAbs) (onesDigit_le _)
        minus := minusFlag (sext8 arg)
        celsius := true }
  else .error .range

/-- ANIM i (R87): animation frame `i` in both positions, both flags 0; `i` not below `AF` cause 4. -/
def selectAnim (af : AnimCount) (arg : Arg) : Except Cause (Selection af) :=
  if h : belowAnimCount af (zext8 arg) = true then
    .ok
      { idxA := animIndex (zext8 arg) ((belowAnimCount_iff af _).1 h)
        idxB := animIndex (zext8 arg) ((belowAnimCount_iff af _).1 h)
        minus := false
        celsius := false }
  else .error .anim

/-- The multiplexer with the operand checks before it (R82, R88): all five arms. -/
def select (af : AnimCount) : Instr → Except Cause (Selection af)
  | .blank => selectBlank af
  | .dashes => selectDashes af
  | .err code => selectErr af code
  | .int value => selectInt af value
  | .anim idx => selectAnim af idx

/-- `Pack(frameA, frameB, minus, celsius)` (30_encoding.md R64). -/
def pack (frameA frameB : Pattern) (minus celsius : Bool) : Frame :=
  (frameA ++ frameB ++ BitVec.ofBool minus ++ BitVec.ofBool celsius : BitVec (7 + 7 + 1 + 1))

/-- `Pack(Encode(c))`: each table is read once, at the index selected for its position (R80, R82). -/
def encodeFrame (c : Config) (m : Selection c.af) : Frame :=
  pack (tableRead c.dt1 m.idxA) (tableRead c.dt2 m.idxB) m.minus m.celsius

/-- `Decode(cmd)` as 30_encoding.md R61 states it, the operand checks included: the command, or the cause of its reject. -/
def decodeCommand (af : AnimCount) (w : CmdWord) : Except Cause Instr :=
  match decode w with
  | .error _ => .error .op
  | .ok i =>
    match select af i with
    | .error c => .error c
    | .ok _ => .ok i

end Sys2Proof.Machine
end

