-- ==== Sys2Proof/Machine/Commands.lean ====
section
/-! DEFINITION. The meanings of the five Display Commands at the tick they are presented (40_frame_encoder.md R83 to R88).
One clock tick: an idle block accepts the command or takes its reject; a busy block transfers nothing (10_state.md R31,
60_exceptions.md R141). The rest of the render is the sequencer's (Machine/Driver.lean). -/

namespace Sys2Proof.Machine

/-- A command is presented: nothing is transferred while busy (R141), a rejected command takes its reject (R134), an
accepted one captures its frame and starts the render (R88). -/
def offer (s : State) (m : Except Cause (Selection s.cfg.config.af)) : Host.Outcome State Fault Refusal :=
  if s.busy = true then .next s
  else
    match m with
    | .error c => .next (s.raiseReject c)
    | .ok sel => .next (s.startRender (encodeFrame s.cfg.config sel))

/-- BLANK (R83). -/
def execBlank (s : State) : Host.Outcome State Fault Refusal := offer s (selectBlank _)

/-- DASHES (R84). -/
def execDashes (s : State) : Host.Outcome State Fault Refusal := offer s (selectDashes _)

/-- ERR (R85). -/
def execErr (code : Arg) (s : State) : Host.Outcome State Fault Refusal := offer s (selectErr _ code)

/-- INT (R86). -/
def execInt (value : Arg) (s : State) : Host.Outcome State Fault Refusal := offer s (selectInt _ value)

/-- ANIM (R87). -/
def execAnim (idx : Arg) (s : State) : Host.Outcome State Fault Refusal := offer s (selectAnim _ idx)

end Sys2Proof.Machine
end

