-- ==== Sys2Proof/Machine/Dispatch.lean ====
section
/-! DEFINITION. One arm per Display Command, each one call of its meaning in Machine/Commands.lean. -/

namespace Sys2Proof.Machine

def exec (i : Instr) (s : State) : Host.Outcome State Fault Refusal :=
  match i with
  | .blank => Sys2Proof.Machine.execBlank s
  | .dashes => Sys2Proof.Machine.execDashes s
  | .err code => Sys2Proof.Machine.execErr code s
  | .int value => Sys2Proof.Machine.execInt value s
  | .anim idx => Sys2Proof.Machine.execAnim idx s

end Sys2Proof.Machine
end

