-- ==== Sys2Proof/Machine/Driver.lean ====
section
/-! DEFINITION. DRV, the Serial Line Driver (41_serial_line_driver.md R108): the cases RESET, COUNT and ADVANCE. The cases NOP,
REJECT and ACCEPT look at a command and stand in Machine/Tick.lean. -/

namespace Sys2Proof.Machine

/-- RESET (R108, 70_reset_and_hazards.md R150): the sequencer to `IDLE`, all lines released, the reject record cleared, `FR`
unspecified: a free value (notes/assumptions/6.md). -/
def resetDriver (s : State) : State :=
  { s with
    ph := .idle, bit := 0, cnt := 0, fr := Config.frAfterReset s.draws
    clockLine := .z, dataLine := .z, latchLine := .z
    fault := false, cause := 0#3 }

/-- ADVANCE out of `LSETTLE`: bit 0 is set up. -/
def beginBits (s : State) : State := (s.setDataBit 0).enter .setup s.cfg.config.tSetup

/-- ADVANCE out of `SETUP`: the clock pulse begins, CLOCK is released (R104). -/
def beginPulse (s : State) : State := (s.release .clock).enter .chigh s.cfg.config.tHalf

/-- ADVANCE out of `CHIGH`: the second half of the pulse, CLOCK is driven low (R104). -/
def fallClock (s : State) : State := (s.driveLow .clock).enter .clow s.cfg.config.tHalf

/-- ADVANCE out of `CLOW`: the next bit is set up, or after bit 15 the latch pulse begins (R105: LATCH driven low, then
released, with no hold between). -/
def nextBit (s : State) : State :=
  if h : s.bit.val < 15 then
    (State.setDataBit { s with bit := ⟨s.bit.val + 1, by omega⟩ } (s.bit.val + 1)).enter .setup s.cfg.config.tSetup
  else
    (((State.driveLow { s with bit := 0 } .latch).release .latch)).enter .lhigh s.cfg.config.tLHigh

/-- ADVANCE out of `LHIGH`: LATCH is driven low again (R105). -/
def fallLatch (s : State) : State := (s.driveLow .latch).enter .lfinal s.cfg.config.tLFinal

/-- ADVANCE out of `LFINAL`, FINISH: LATCH, DATA and CLOCK are released, the render is over (R106 steps 6 to 8). -/
def finishRender (s : State) : State := (((s.release .latch).release .data).release .clock).enter .idle 0

/-- ADVANCE: the current phase is over (R108). An idle sequencer has no such case. -/
def advance (s : State) : State :=
  match s.ph with
  | .idle => s
  | .lsettle => beginBits s
  | .setup => beginPulse s
  | .chigh => fallClock s
  | .clow => nextBit s
  | .lhigh => fallLatch s
  | .lfinal => finishRender s

/-- COUNT and ADVANCE for `ph != IDLE` (R108): `cnt > 1` counts down, `cnt = 1` advances; for `cnt = 0` R108 lists no case
(safe stop, notes/assumptions/14.md). -/
def runSequencer (s : State) : Host.Outcome State Fault Refusal :=
  match s.cnt with
  | 0 => .fault .sequencerStuck
  | 1 => .next (advance s)
  | n + 2 => .next { s with cnt := n + 1 }

end Sys2Proof.Machine
end

