-- ==== Sys2Proof/Machine/Ports.lean ====
section
/-! DEFINITION. The ports (10_state.md R31, R35): the input HOST presents at the coming clock edge, the outputs as functions of
the state, and the electrical level of a wire (70_reset_and_hazards.md R155). -/

namespace Sys2Proof.Machine

/-- HOST presents nothing: no reset, no command, the time unit enabled. -/
def PortInput.nothing : PortInput := { rst := false, tick := true, cmdValid := false, cmd := 0#11 }

/-- HOST presents the word `w` at a tick. -/
def PortInput.present (w : CmdWord) : PortInput := { rst := false, tick := true, cmdValid := true, cmd := w }

/-- The input of the coming clock edge. Past the end of the list HOST presents nothing (DESIGN CHOICE, unsafe,
notes/assumptions/3.md). -/
def State.input (s : State) : PortInput :=
  match s.inputs with
  | [] => PortInput.nothing
  | p :: _ => p

/-- `level(X)` of a Line State: 0 when driven low, 1 when released and pulled up (R155; unsafe, notes/assumptions/16.md). -/
def LineState.level : LineState → Bool
  | .low => false
  | .z => true

/-- The pad enable of a line: `*_low = 1` exactly when the line is driven low (R31). -/
def LineState.lowEnable : LineState → Bool
  | .low => true
  | .z => false

/-- The output ports (R31). HOST reads the first four; the last three switch the pad drivers. -/
structure Outputs where
  cmdReady : Bool
  busy : Bool
  fault : Bool
  cause : BitVec 3
  clockLow : Bool
  dataLow : Bool
  latchLow : Bool
deriving DecidableEq, Repr

/-- The outputs during the interval after a clock edge, functions of the state only (R31). -/
def State.outputs (s : State) : Outputs where
  cmdReady := s.cmdReady
  busy := s.busy
  fault := s.fault
  cause := s.cause
  clockLow := s.clockLine.lowEnable
  dataLow := s.dataLine.lowEnable
  latchLow := s.latchLine.lowEnable

/-- The three wire levels, 1 = high: all that ENV observes (R35). -/
structure Wires where
  clock : Bool
  data : Bool
  latch : Bool
deriving DecidableEq, Repr

/-- The wire levels of a state (R155). -/
def State.wires (s : State) : Wires where
  clock := s.clockLine.level
  data := s.dataLine.level
  latch := s.latchLine.level

end Sys2Proof.Machine
end

