-- ==== Sys2Proof/Machine/Receiver.lean ====
section
/-! DEFINITION. ENV: the reference receiver behind the three lines (20_memory.md R48, R49), an environment assumption with the
parameters `RX.sample` and `RX.commit`, and what may be said of the real receiver's contents (70_reset_and_hazards.md R151,
R158). No rule of BPDC reads any of it. -/

namespace Sys2Proof.Machine

/-- The change of one wire level at a boundary, if there is one (R48). -/
def edgeOf (old new : Bool) : Option Edge :=
  match old, new with
  | false, true => some .rise
  | true, false => some .fall
  | false, false => none
  | true, true => none

/-- Whether a wire shows the edge a parameter names. -/
def shows (want : Edge) (seen : Option Edge) : Bool :=
  match seen with
  | none => false
  | some e => decide (e = want)

/-- The bit shifted in (R49): the level of DATA if DATA did not change at this boundary, else the unconstrained draw. -/
def sampledBit (old new : Wires) (draw : Bool) : Bool := if old.data = new.data then new.data else draw

/-- `{SR[14:0], d}` (R49). -/
def shiftIn (sr : BitVec 16) (d : Bool) : BitVec 16 := (sr.extractLsb' 0 15 ++ BitVec.ofBool d : BitVec (15 + 1))

/-- The receiver at one boundary (R49). `OUT` copies the `SR` from before the boundary, also where CLOCK shifts at the same
boundary (DESIGN CHOICE, unsafe, notes/assumptions/10.md). -/
def receiverBoundary (r : Receiver) (old new : Wires) (draw : Bool) : Receiver :=
  { r with
    sr := if shows r.sample (edgeOf old.clock new.clock) = true then shiftIn r.sr (sampledBit old new draw) else r.sr
    out := if shows r.commit (edgeOf old.latch new.latch) = true then r.sr else r.out }

/-- Whether the real receiver's contents are any value after a clock edge: from a reset during a render until a render has
completed (R158). -/
def unknownAfter (rst : Bool) (old new : State) : Bool :=
  if rst = true ∧ old.ph ≠ .idle then true
  else if rst = false ∧ old.ph ≠ .idle ∧ new.ph = .idle then false
  else old.rxUnknown

/-- `SR` and `OUT` as a claim about the real receiver may use them: the reference receiver's, or free values while they are
unknown (R158; notes/assumptions/11.md). -/
def State.receiverContents (s : State) : BitVec 16 × BitVec 16 :=
  if s.rxUnknown = true then (Config.srWhenUnknown s.draws, Config.outWhenUnknown s.draws) else (s.rx.sr, s.rx.out)

/-- The level that stands for a logical bit, and the reverse: `v xor POL` on all 16 bits (R48, R50). -/
def xorPol (pol : Bool) (v : BitVec 16) : BitVec 16 := if pol = true then ~~~v else v

/-- The logical frame the display shows (R48). -/
def State.displayed (s : State) : Frame := xorPol s.cfg.config.pol s.receiverContents.2

end Sys2Proof.Machine
end

