-- ==== Sys2Proof/Machine/Tick.lean ====
section
/-! DEFINITION. One active edge of `clk` (10_state.md R31, 41_serial_line_driver.md R108, 70_reset_and_hazards.md R150): the
driver's `Step`, then what happens around it, the input consumed and the receiver's boundary. -/

namespace Sys2Proof.Machine

/-- REJECT and ACCEPT of R108: the word is decoded; a reserved `OP` is rejected with cause 2 (30_encoding.md R67), an
instruction runs. -/
def issueWord (w : CmdWord) (s : State) : Host.Outcome State Fault Refusal :=
  match decode w with
  | .error _ => .next (s.raiseReject .op)
  | .ok i => exec i s

/-- `Step(S, in)` (R108): the cases in their order. A busy block looks at no input but `rst` (R112). -/
def driverStep (p : PortInput) (s : State) : Host.Outcome State Fault Refusal :=
  if p.rst = true then .next (resetDriver s)
  else if s.busy = true then runSequencer s
  else if p.cmdValid = true then issueWord p.cmd s
  else .next s

/-- What the driver does at a clock edge: `rst` acts whatever `tick` is (R150); an edge with neither changes nothing (R31). -/
def edgeStep (p : PortInput) (s : State) : Host.Outcome State Fault Refusal :=
  if p.rst = true then driverStep p s
  else if p.tick = true then driverStep p s
  else .next s

/-- What goes on around the driver at a clock edge from `s` to `t`: HOST's next input comes up, the receiver sees the
boundary (20_memory.md R49), and the free values of this edge are used up. -/
def aroundEdge (rst : Bool) (s t : State) : State :=
  { t with
    inputs := s.inputs.tail
    rx := receiverBoundary s.rx s.wires t.wires (Config.racedDataBit s.draws)
    rxUnknown := unknownAfter rst s t
    draws := s.draws + 1 }

/-- One active edge of `clk`. -/
def clockEdge (s : State) : Host.Outcome State Fault Refusal :=
  match edgeStep s.input s with
  | .next t => .next (aroundEdge s.input.rst s t)
  | .fault r => .fault r
  | .refused r => .refused r

/-- The block idle, with HOST presenting the word `w` at the coming tick; nothing else is changed. In an idle state of
10_state.md R33 only the input is. -/
def State.presenting (s : State) (w : CmdWord) : State :=
  { s with
    ph := .idle, bit := 0, cnt := 0, clockLine := .z, dataLine := .z, latchLine := .z
    inputs := PortInput.present w :: s.inputs }

end Sys2Proof.Machine
end

