-- ==== Sys2Proof/Machine/Step.lean ====
section
/-! DEFINITION. The step of the machine, one active edge of `clk` (Machine/Tick.lean), and the placing of one word where the
next step takes it. -/

namespace Sys2Proof.Machine

/-- One step. -/
def step (s : State) : Host.Outcome State Fault Refusal := clockEdge s

/-- `s` with HOST presenting the word whose bits are `w` at the next clock edge, a tick, to an idle block, so that the next
step takes it. It stands for HOST's presenting a word: BPDC fetches nothing (DESIGN CHOICE, notes/assumptions/4.md). -/
def State.withFetchWord (s : State) (nbits w : Nat) : State := s.presenting (tableWord nbits w)

end Sys2Proof.Machine
end

