-- ==== Sys2Proof/Machine/Assembler.lean ====
section
/-! DEFINITION. The assembler's textual form of the Display Commands (30_encoding.md R69) and the pseudo-commands (R70). It is the
spec's own notation for programs (92_eei_decisions.md D23); no hardware reads it. Details R69 leaves open are DESIGN CHOICES of
notes/assumptions/18.md. -/

namespace Sys2Proof.Machine

/-- `OFF` (R70). -/
def pseudoOff : Instr := .blank

/-- `UNAVAIL` (R70, 90_conflicts.md C4). -/
def pseudoUnavail : Instr := .blank

/-- `NOLINK` (R70). -/
def pseudoNolink : Instr := .dashes

/-- What a line stands for. -/
inductive AsmLine where
  /-- A comment or an empty line: no word. `; wait ready` is one: HOST waits until `cmd_ready = 1`. -/
  | nothing
  /-- One command word. -/
  | word (w : CmdWord)
deriving DecidableEq, Repr

/-- The line without its comment: a `;` starts one. -/
def withoutComment : List Char → List Char
  | [] => []
  | c :: cs => if c = ';' then [] else c :: withoutComment cs

/-- The words of a line, separated by spaces; `cur` is the word being read, last character first. -/
def lineTokens : List Char → List Char → List (List Char)
  | [], [] => []
  | [], cur => [cur.reverse]
  | c :: cs, cur =>
    if c = ' ' then
      match cur with
      | [] => lineTokens cs []
      | d :: ds => (d :: ds).reverse :: lineTokens cs []
    else lineTokens cs (c :: cur)

/-- A decimal digit. -/
def decimalDigit (c : Char) : Option Nat :=
  if '0'.toNat ≤ c.toNat ∧ c.toNat ≤ '9'.toNat then some (c.toNat - '0'.toNat) else none

/-- A hexadecimal digit, capital or small. -/
def hexDigit (c : Char) : Option Nat :=
  if '0'.toNat ≤ c.toNat ∧ c.toNat ≤ '9'.toNat then some (c.toNat - '0'.toNat)
  else if 'A'.toNat ≤ c.toNat ∧ c.toNat ≤ 'F'.toNat then some (c.toNat - 'A'.toNat + 10)
  else if 'a'.toNat ≤ c.toNat ∧ c.toNat ≤ 'f'.toNat then some (c.toNat - 'a'.toNat + 10)
  else none

/-- The digits of a number in a base, read on from the value `acc`. -/
def readDigits (digit : Char → Option Nat) (base : Nat) : List Char → Nat → Option Nat
  | [], acc => some acc
  | c :: cs, acc =>
    match digit c with
    | none => none
    | some d => readDigits digit base cs (acc * base + d)

/-- A decimal natural number, at least one digit. -/
def readDecimal : List Char → Option Nat
  | [] => none
  | c :: cs => readDigits decimalDigit 10 (c :: cs) 0

/-- A decimal integer: a leading `-` for negatives, and no negative zero. -/
def readInteger : List Char → Option Int
  | [] => none
  | c :: cs =>
    if c = '-' then
      match readDecimal cs with
      | none => none
      | some n => if n = 0 then none else some (-(n : Int))
    else
      match readDecimal (c :: cs) with
      | none => none
      | some n => some (n : Int)

/-- The operand of `.word`: `0x` and three hexadecimal digits that fit eleven bits. -/
def readWord : List Char → Option CmdWord
  | ['0', 'x', a, b, c] =>
    match readDigits hexDigit 16 [a, b, c] 0 with
    | none => none
    | some n => if n < 2048 then some (BitVec.ofNat 11 n) else none
  | _ => none

/-- A mnemonic without operand: BLANK, DASHES and the pseudo-commands. -/
def bareCommand (m : List Char) : Option Instr :=
  if m = "BLANK".toList then some .blank
  else if m = "DASHES".toList then some .dashes
  else if m = "OFF".toList then some pseudoOff
  else if m = "UNAVAIL".toList then some pseudoUnavail
  else if m = "NOLINK".toList then some pseudoNolink
  else none

/-- A mnemonic with its decimal operand; an operand outside its range is refused (R69). -/
def operandCommand (af : AnimCount) (m arg : List Char) : Option Instr :=
  match readInteger arg with
  | none => none
  | some v =>
    if m = "ERR".toList then if 0 ≤ v ∧ v ≤ 99 then some (.err (BitVec.ofInt 8 v)) else none
    else if m = "INT".toList then if -99 ≤ v ∧ v ≤ 99 then some (.int (BitVec.ofInt 8 v)) else none
    else if m = "ANIM".toList then if 0 ≤ v ∧ v < af.count then some (.anim (BitVec.ofInt 8 v)) else none
    else none

/-- One line of a program (R69): `none` where the assembler refuses it. -/
def assembleLine (af : AnimCount) (line : List Char) : Option AsmLine :=
  match lineTokens (withoutComment line) [] with
  | [] => some .nothing
  | [m] =>
    match bareCommand m with
    | none => none
    | some i => some (.word (encode i))
  | [m, arg] =>
    if m = ".word".toList then
      match readWord arg with
      | none => none
      | some w => some (.word w)
    else
      match operandCommand af m arg with
      | none => none
      | some i => some (.word (encode i))
  | _ => none

end Sys2Proof.Machine
end

