-- ==== Sys2Proof/Machine/Timeline.lean ====
section
/-! DEFINITION. The timeline of a render (41_serial_line_driver.md R109) and its durations (70_reset_and_hazards.md R165),
written from the tables of the spec and not from the machine; that the machine keeps to it is an obligation. -/

namespace Sys2Proof.Machine

/-- `P`, the bit period (R109). -/
def bitPeriod (c : Config) : Nat := c.tSetup + 2 * c.tHalf

/-- `D`, the number of busy ticks of a render (R109, R165). -/
def renderTicks (c : Config) : Nat := c.tLSettle + 16 * bitPeriod c + c.tLHigh + c.tLFinal

/-- Where the sequencer stands. -/
structure Place where
  ph : Phase
  bit : Nat
  cnt : Nat
deriving DecidableEq, Repr

/-- The place `r` ticks into the period of bit `k` (R109 rows 2 to 4). -/
def placeInBit (c : Config) (k r : Nat) : Place :=
  if r < c.tSetup then ⟨.setup, k, c.tSetup - r⟩
  else if r < c.tSetup + c.tHalf then ⟨.chigh, k, c.tSetup + c.tHalf - r⟩
  else ⟨.clow, k, bitPeriod c - r⟩

/-- The place `u` ticks after the last bit period (R109 rows 5 to 7). -/
def placeInLatch (c : Config) (u : Nat) : Place :=
  if u < c.tLHigh then ⟨.lhigh, 0, c.tLHigh - u⟩
  else if u < c.tLHigh + c.tLFinal then ⟨.lfinal, 0, c.tLHigh + c.tLFinal - u⟩
  else ⟨.idle, 0, 0⟩

/-- The place `j` ticks after the first busy tick, that is at tick `t0 + 1 + j` for a command accepted at `t0` (R109). -/
def placeAt (c : Config) (j : Nat) : Place :=
  if j < c.tLSettle then ⟨.lsettle, 0, c.tLSettle - j⟩
  else if j < c.tLSettle + 16 * bitPeriod c then
    placeInBit c ((j - c.tLSettle) / bitPeriod c) ((j - c.tLSettle) % bitPeriod c)
  else placeInLatch c (j - c.tLSettle - 16 * bitPeriod c)

end Sys2Proof.Machine
end

