-- ==== Sys2Proof/Machine/Trace.lean ====
section
/-! DEFINITION. The render as a sequence of line events: the alphabet (30_encoding.md R66), the primitives
(41_serial_line_driver.md R100 to R105), the render sequence (R106), its trace (R107), and the per-tick reading of a trace in
which each `HOLD(n)` lasts `n` ticks (R103, R107). -/

namespace Sys2Proof.Machine

/-- The line-event alphabet (30_encoding.md R66). -/
inductive Event where
  /-- `LOW(X)`: the line becomes or stays driven low. -/
  | low (X : Line)
  /-- `Z(X)`: the line becomes or stays released. -/
  | z (X : Line)
  /-- `HOLD(n)`: `n` time units pass with no line action. -/
  | hold (n : Nat)
deriving DecidableEq, Repr

/-- The event that brings a line to a Line State. -/
def Event.toLine (X : Line) : LineState → Event
  | .low => .low X
  | .z => .z X

/-- `pulseClock()` (R104). -/
def pulseClockEvents (c : Config) : List Event :=
  [.z .clock, .hold c.tHalf, .low .clock, .hold c.tHalf]

/-- One bit of the render: set DATA, hold, pulse CLOCK (R106 steps 2 to 5). -/
def bitEvents (c : Config) (fr : Frame) (k : Nat) : List Event :=
  Event.toLine .data (dataState c.pol (frameBit fr k)) :: .hold c.tSetup :: pulseClockEvents c

/-- `latchPulse()` (R105). -/
def latchPulseEvents (c : Config) : List Event :=
  [.low .latch, .z .latch, .hold c.tLHigh, .low .latch, .hold c.tLFinal, .z .latch]

/-- `Render(FR)` (R106), equal to `Trace(FR)` (R107). -/
def renderEvents (c : Config) (fr : Frame) : List Event :=
  [.low .latch, .hold c.tLSettle] ++ (List.range 16).flatMap (bitEvents c fr) ++
    latchPulseEvents c ++ [.z .data, .z .clock]

/-- The three Line States together. -/
structure Lines where
  clock : LineState
  data : LineState
  latch : LineState
deriving DecidableEq, Repr

/-- The lines of a state. -/
def State.lines (s : State) : Lines where
  clock := s.clockLine
  data := s.dataLine
  latch := s.latchLine

/-- All three lines released. -/
def Lines.released : Lines where
  clock := .z
  data := .z
  latch := .z

/-- One line set. -/
def Lines.set (l : Lines) (X : Line) (v : LineState) : Lines :=
  match X with
  | .clock => { l with clock := v }
  | .data => { l with data := v }
  | .latch => { l with latch := v }

/-- The Line States tick by tick while a trace is played from `l`: each hold of `n` gives `n` ticks, events with no hold
between them fall on one boundary (R107). -/
def play : List Event → Lines → List Lines
  | [], _ => []
  | .low X :: es, l => play es (l.set X .low)
  | .z X :: es, l => play es (l.set X .z)
  | .hold n :: es, l => List.replicate n l ++ play es l

/-- The Line States a trace ends in. -/
def playEnd : List Event → Lines → Lines
  | [], l => l
  | .low X :: es, l => playEnd es (l.set X .low)
  | .z X :: es, l => playEnd es (l.set X .z)
  | .hold _ :: es, l => playEnd es l

/-- The time units a trace holds for. -/
def holdTotal : List Event → Nat
  | [] => 0
  | .low _ :: es => holdTotal es
  | .z _ :: es => holdTotal es
  | .hold n :: es => n + holdTotal es

/-- The line events of a trace. -/
def lineEventCount : List Event → Nat
  | [] => 0
  | .low _ :: es => lineEventCount es + 1
  | .z _ :: es => lineEventCount es + 1
  | .hold _ :: es => lineEventCount es

/-- The holds of a trace. -/
def holdCount : List Event → Nat
  | [] => 0
  | .low _ :: es => holdCount es
  | .z _ :: es => holdCount es
  | .hold _ :: es => holdCount es + 1

end Sys2Proof.Machine
end

