-- ==== Sys2Proof/Safety.lean ====
section
/-! DEFINITION. What counts as a safe state and a safe run: the invariants of 10_state.md R33 and R34, the reject record's
(R27, 60_exceptions.md R130), and HOST's duties (R139). -/

namespace Sys2Proof

open Machine

/-- The idle state but for `FR`, `FAULT` and `CAUSE` (10_state.md R33). -/
def Safety.IdleState (s : State) : Prop :=
  s.ph = .idle ∧ s.bit = 0 ∧ s.cnt = 0 ∧ s.clockLine = .z ∧ s.dataLine = .z ∧ s.latchLine = .z

/-- DATA holds the line state of bit `k` of the frame. -/
def Safety.DataIs (s : State) (k : Nat) : Prop := s.dataLine = dataState s.cfg.config.pol (frameBit s.fr k)

/-- `cnt` lies in `1..n`. -/
def Safety.CntIn (s : State) (n : Nat) : Prop := 1 ≤ s.cnt ∧ s.cnt ≤ n

/-- The invariant table of 10_state.md R34, row by row. -/
def Safety.DriverInv (s : State) : Prop :=
  match s.ph with
  | .idle => s.latchLine = .z ∧ s.clockLine = .z ∧ s.dataLine = .z ∧ s.cnt = 0 ∧ s.bit = 0
  | .lsettle =>
    s.latchLine = .low ∧ s.clockLine = .z ∧ s.dataLine = .z ∧ CntIn s s.cfg.config.tLSettle ∧ s.bit = 0
  | .setup =>
    s.latchLine = .low ∧ s.clockLine = (if s.bit = 0 then .z else .low) ∧ DataIs s s.bit.val ∧
      CntIn s s.cfg.config.tSetup
  | .chigh => s.latchLine = .low ∧ s.clockLine = .z ∧ DataIs s s.bit.val ∧ CntIn s s.cfg.config.tHalf
  | .clow => s.latchLine = .low ∧ s.clockLine = .low ∧ DataIs s s.bit.val ∧ CntIn s s.cfg.config.tHalf
  | .lhigh => s.latchLine = .z ∧ s.clockLine = .low ∧ DataIs s 15 ∧ CntIn s s.cfg.config.tLHigh ∧ s.bit = 0
  | .lfinal => s.latchLine = .low ∧ s.clockLine = .low ∧ DataIs s 15 ∧ CntIn s s.cfg.config.tLFinal ∧ s.bit = 0

/-- The reject record: no reject and cause 0, or a reject and one of the causes 1 to 4 (R27, R130). -/
def Safety.RejectRecordOk (s : State) : Prop :=
  (s.fault = false ∧ s.cause = 0#3) ∨ (s.fault = true ∧ ∃ c : Cause, s.cause = c.number)

/-- HOST's duties at the coming clock edge (60_exceptions.md R139): no reset during a render, and a word it offers to an idle
block is legal. -/
def Safety.HostDuty (s : State) : Prop :=
  (s.input.rst = true → s.busy = false) ∧
    (s.input.cmdValid = true → s.busy = false → ∃ i, decodeCommand s.cfg.config.af s.input.cmd = .ok i)

/-- The next `n` inputs are given, each is a tick and none asserts `rst`: the runs whose ticks 41_serial_line_driver.md R109
counts. HOST may present any words meanwhile, and anything at all afterwards. -/
def Safety.UndisturbedFor (s : State) (n : Nat) : Prop :=
  n ≤ s.inputs.length ∧ ∀ p ∈ s.inputs.take n, p.rst = false ∧ p.tick = true

/-- HOST presents a word at the coming tick to the idle block, and the command it stands for is accepted with the frame `fr`
(R108, ACCEPT). -/
def Safety.AcceptsFrame (s : State) (fr : Frame) : Prop :=
  IdleState s ∧ s.input.rst = false ∧ s.input.tick = true ∧ s.input.cmdValid = true ∧
    ∃ i m, decode s.input.cmd = .ok i ∧ select s.cfg.config.af i = .ok m ∧ fr = encodeFrame s.cfg.config m

/-- The same configuration with another polarity flag; no constraint of R5 to R9 reads `POL`. -/
def LegalConfig.withPol (c : LegalConfig) (pol : Bool) : LegalConfig := ⟨{ c.config with pol := pol }, c.legal⟩

end Sys2Proof
end

