-- ==== Sys2Proof/Certificates/Slice0/Obligations.lean ====
section
/-! DEFINITION. The statements for the provers. Each docstring names the rules of spec/ it formalises. -/

open Sys2Proof Sys2Proof.Machine Sys2Proof.Safety

/-! ## Encoding -/

/-- 30_encoding.md R60, R61, R68: decoding the word of any command gives the command back, and a word that decodes is the
word of its command, but for the operand bits BLANK and DASHES ignore. -/
def Obligations.DecodeEncodeRoundTrip : Prop :=
  (∀ i : Instr, decode (encode i) = .ok i) ∧
    ∀ (w : CmdWord) (i : Instr), decode w = .ok i →
      if i = .blank ∨ i = .dashes then encode i = w &&& 0x700#11 else encode i = w

/-- R61 whole, in the words of its table: a word is the instruction of a row when `(w and mask) = match`; the operand
checks; the reserved values of `OP`. -/
def Obligations.DecodeCommandMatchesTable : Prop :=
  ∀ (af : AnimCount) (w : CmdWord),
    (w &&& 0x700#11 = 0x000#11 → decodeCommand af w = .ok .blank) ∧
    (w &&& 0x700#11 = 0x100#11 → decodeCommand af w = .ok .dashes) ∧
    (w &&& 0x700#11 = 0x200#11 → decodeCommand af w =
      if 99 < (w.setWidth 8).toNat then .error .code else .ok (.err (w.setWidth 8))) ∧
    (w &&& 0x700#11 = 0x300#11 → decodeCommand af w =
      if (w.setWidth 8).toInt < -99 ∨ 99 < (w.setWidth 8).toInt then .error .range else .ok (.int (w.setWidth 8))) ∧
    (w &&& 0x700#11 = 0x400#11 → decodeCommand af w =
      if af.count ≤ (w.setWidth 8).toNat then .error .anim else .ok (.anim (w.setWidth 8))) ∧
    (w &&& 0x700#11 = 0x500#11 ∨ w &&& 0x700#11 = 0x600#11 ∨ w &&& 0x700#11 = 0x700#11 →
      decodeCommand af w = .error .op) ∧
    Cause.range.number = 1#3 ∧ Cause.op.number = 2#3 ∧ Cause.code.number = 3#3 ∧ Cause.anim.number = 4#3

/-- 30_encoding.md R60 to R63, words written out bit by bit from the field table (`OP`, then `ARG`). -/
def Obligations.WrittenOutWordsDecode : Prop :=
  decode 0b000_00000000#11 = .ok .blank ∧
  decode 0b001_00000000#11 = .ok .dashes ∧
  decode 0b010_00000111#11 = .ok (.err 7#8) ∧
  decode 0b011_00011000#11 = .ok (.int 24#8) ∧
  decode 0b011_11111001#11 = .ok (.int (BitVec.ofInt 8 (-7))) ∧
  decode 0b100_00000101#11 = .ok (.anim 5#8) ∧
  decode 0b101_00000000#11 = .error (.reservedOp 5#3)

/-- R67: an illegal word offered to an idle block is rejected and executed as nothing, and there are as many illegal words
of each cause as the rule counts. -/
def Obligations.IllegalWordsAreRejected : Prop :=
  (∀ (s : State) (w : CmdWord) (c : Cause), s.ph = .idle → decodeCommand s.cfg.config.af w = .error c →
    issueWord w s = .next (s.raiseReject c)) ∧
  ∀ af : AnimCount,
    (List.range 2048).countP (fun w => decodeCommand af (BitVec.ofNat 11 w) = .error .op) = 768 ∧
    (List.range 2048).countP (fun w => decodeCommand af (BitVec.ofNat 11 w) = .error .code) = 156 ∧
    (List.range 2048).countP (fun w => decodeCommand af (BitVec.ofNat 11 w) = .error .range) = 57 ∧
    (List.range 2048).countP (fun w => decodeCommand af (BitVec.ofNat 11 w) = .error .anim) = 256 - af.count

/-- R64, R65, 20_memory.md R44: where the parts of a frame lie, and the order in which its bits are transmitted: position 1
first, most significant segment bit first, then position 2, minus, celsius. -/
def Obligations.FrameLayoutAndTransmissionOrder : Prop :=
  ∀ (a b : Pattern) (m c : Bool),
    (∀ fr : Frame, ∀ k < 16, frameBit fr k = fr.getLsbD (15 - k)) ∧
    (pack a b m c).extractLsb' 9 7 = a ∧ (pack a b m c).extractLsb' 2 7 = b ∧
    (pack a b m c).getLsbD 1 = m ∧ (pack a b m c).getLsbD 0 = c ∧
    (∀ k < 7, frameBit (pack a b m c) k = a.getMsbD k) ∧
    (∀ k < 7, frameBit (pack a b m c) (7 + k) = b.getMsbD k) ∧
    frameBit (pack a b m c) 14 = m ∧ frameBit (pack a b m c) 15 = c

/-- R70: the pseudo-commands assemble to the words of the table. -/
def Obligations.PseudoCommandsAssemble : Prop :=
  ∀ af : AnimCount,
    assembleLine af "OFF".toList = some (.word 0x000#11) ∧
    assembleLine af "UNAVAIL".toList = some (.word 0x000#11) ∧
    assembleLine af "NOLINK".toList = some (.word 0x100#11)

/-- R69: a mnemonic with an operand assembles only to a word that decodes to a legal command, and to the one the operand
names. -/
def Obligations.AssembledCommandsAreLegal : Prop :=
  ∀ (af : AnimCount) (m arg : List Char) (i : Instr), operandCommand af m arg = some i →
    decodeCommand af (encode i) = .ok i ∧
    ∃ v : Int, readInteger arg = some v ∧
      ((m = "ERR".toList ∧ ∃ a : Arg, i = .err a ∧ (zext8 a : Int) = v) ∨
        (m = "INT".toList ∧ ∃ a : Arg, i = .int a ∧ sext8 a = v) ∨
        (m = "ANIM".toList ∧ ∃ a : Arg, i = .anim a ∧ (zext8 a : Int) = v))

/-! ## The Frame Encoder and the five commands -/

/-- 40_frame_encoder.md R82: the index multiplexer, arm by arm, on the operands the commands accept, and `Encode` as one
read of each table. -/
def Obligations.MultiplexerArms : Prop :=
  ∀ af : AnimCount,
    (∃ m, select af .blank = .ok m ∧ m.idxA.val = 10 ∧ m.idxB.val = 10 ∧ m.minus = false ∧ m.celsius = false) ∧
    (∃ m, select af .dashes = .ok m ∧ m.idxA.val = 11 ∧ m.idxB.val = 11 ∧ m.minus = false ∧ m.celsius = false) ∧
    (∀ a : Arg, a.toNat ≤ 99 → ∃ m, select af (.err a) = .ok m ∧
      m.idxA.val = a.toNat / 10 ∧ m.idxB.val = a.toNat % 10 ∧ m.minus = false ∧ m.celsius = false) ∧
    (∀ a : Arg, -99 ≤ a.toInt → a.toInt ≤ 99 → ∃ m, select af (.int a) = .ok m ∧
      m.idxA.val = (if a.toInt.natAbs / 10 = 0 then 10 else a.toInt.natAbs / 10) ∧
      m.idxB.val = a.toInt.natAbs % 10 ∧ (m.minus = true ↔ a.toInt < 0) ∧ m.celsius = true) ∧
    (∀ a : Arg, a.toNat < af.count → ∃ m, select af (.anim a) = .ok m ∧
      m.idxA.val = 12 + a.toNat ∧ m.idxB.val = 12 + a.toNat ∧ m.minus = false ∧ m.celsius = false) ∧
    ∀ (c : Config) (m : Selection c.af),
      encodeFrame c m = pack (c.dt1[m.idxA.val]) (c.dt2[m.idxB.val]) m.minus m.celsius

/-- R83: `BLANK` on an idle block completes: the all-zero frame whatever the tables are, LATCH low, the render started. -/
def Obligations.BlankCompletes : Prop :=
  ∀ s : State, s.ph = .idle →
    exec .blank s = .next
      { s with
        fr := 0x0000#16, latchLine := .low, ph := .lsettle, cnt := s.cfg.config.tLSettle, bit := 0 }

/-- R84: `DASHES` on an idle block completes: the minus glyph in both positions, both flags 0. -/
def Obligations.DashesCompletes : Prop :=
  ∀ s : State, s.ph = .idle →
    exec .dashes s = .next
      { s with
        fr := pack (s.cfg.config.dt1[11]) (s.cfg.config.dt2[11]) false false
        latchLine := .low, ph := .lsettle, cnt := s.cfg.config.tLSettle, bit := 0 }

/-- R85: `ERR n`, `n` in 0..99, on an idle block completes: both digits shown, no leading-zero suppression, both flags 0. -/
def Obligations.ErrCompletes : Prop :=
  ∀ (code : Arg) (s : State) (_h : code.toNat ≤ 99), s.ph = .idle →
    exec (.err code) s = .next
      { s with
        fr := pack (s.cfg.config.dt1[code.toNat / 10]) (s.cfg.config.dt2[code.toNat % 10]) false false
        latchLine := .low, ph := .lsettle, cnt := s.cfg.config.tLSettle, bit := 0 }

/-- R86: `INT v`, `v` in -99..99, on an idle block completes: the tens digit blanked when it is 0, the sign in the minus
flag, celsius 1. -/
def Obligations.IntCompletes : Prop :=
  ∀ (value : Arg) (s : State) (_hl : -99 ≤ value.toInt) (_hu : value.toInt ≤ 99), s.ph = .idle →
    exec (.int value) s = .next
      { s with
        fr := pack
          (if value.toInt.natAbs / 10 = 0 then 0#7 else s.cfg.config.dt1[value.toInt.natAbs / 10])
          (s.cfg.config.dt2[value.toInt.natAbs % 10]) (decide (value.toInt < 0)) true
        latchLine := .low, ph := .lsettle, cnt := s.cfg.config.tLSettle, bit := 0 }

/-- R87: `ANIM i`, `i` below `AF`, on an idle block completes: animation frame `i` in both positions, both flags 0. -/
def Obligations.AnimCompletes : Prop :=
  ∀ (idx : Arg) (s : State) (_h : idx.toNat < s.cfg.config.af.count), s.ph = .idle →
    exec (.anim idx) s = .next
      { s with
        fr := pack (s.cfg.config.dt1[12 + idx.toNat]) (s.cfg.config.dt2[12 + idx.toNat]) false false
        latchLine := .low, ph := .lsettle, cnt := s.cfg.config.tLSettle, bit := 0 }

/-- R88: a command that is not rejected does three things at its accept tick and nothing else; a rejected one writes no
frame, starts no render and changes no line. -/
def Obligations.AcceptedCommandDoesThreeThings : Prop :=
  ∀ (i : Instr) (s : State), s.ph = .idle →
    (∀ m, select s.cfg.config.af i = .ok m → exec i s = .next
      { s with
        fr := pack (s.cfg.config.dt1[m.idxA.val]) (s.cfg.config.dt2[m.idxB.val]) m.minus m.celsius
        latchLine := .low
        ph := .lsettle, cnt := s.cfg.config.tLSettle, bit := 0 }) ∧
    (∀ c, select s.cfg.config.af i = .error c → ∃ t, exec i s = .next t ∧
      t.fr = s.fr ∧ t.ph = .idle ∧ t.bit = s.bit ∧ t.cnt = s.cnt ∧
      t.clockLine = s.clockLine ∧ t.dataLine = s.dataLine ∧ t.latchLine = s.latchLine)

/-- The frame of every command (R88, R134, 60_exceptions.md R141): CLOCK, DATA, `Config`, the inputs, the receiver and the
model's own fields never change, and either the reject record or everything but the reject record is unchanged. -/
def Obligations.CommandFrame : Prop :=
  ∀ (i : Instr) (s t : State), exec i s = .next t →
    (t.clockLine = s.clockLine ∧ t.dataLine = s.dataLine ∧ t.cfg = s.cfg ∧ t.inputs = s.inputs ∧ t.rx = s.rx ∧
      t.rxUnknown = s.rxUnknown ∧ t.draws = s.draws) ∧
    ((t.fault = s.fault ∧ t.cause = s.cause) ∨
      (t.fr = s.fr ∧ t.latchLine = s.latchLine ∧ t.ph = s.ph ∧ t.bit = s.bit ∧ t.cnt = s.cnt)) ∧
    ((t.fr = s.fr ∧ t.latchLine = s.latchLine ∧ t.ph = s.ph ∧ t.bit = s.bit ∧ t.cnt = s.cnt) ∨
      (t.latchLine = .low ∧ t.ph = .lsettle ∧ t.bit = 0 ∧ t.cnt = s.cfg.config.tLSettle))

/-- No command stops the machine: in every state each answers a next state (R80, R131, R134). -/
def Obligations.NoCommandStops : Prop :=
  ∀ (i : Instr) (s : State), ∃ t, exec i s = .next t

/-- R81: whether a command is accepted, what is captured and which cause is recorded depend on the command and on `Config`
only, not on any register, earlier command or reject. -/
def Obligations.EncoderIsPure : Prop :=
  ∀ (i : Instr) (s s' t t' : State), s.cfg = s'.cfg → s.ph = .idle → s'.ph = .idle →
    exec i s = .next t → exec i s' = .next t' →
    t.ph = t'.ph ∧ (t.ph = .lsettle → t.fr = t'.fr ∧ t.cnt = t'.cnt) ∧
      (t.ph = .idle → s.fault = s'.fault → s.cause = s'.cause → t.fault = t'.fault ∧ t.cause = t'.cause)

/-- R91 (c): two accepted error codes that give the same frame are the same code. -/
def Obligations.ErrCodesAreRecovered : Prop :=
  ∀ (c : LegalConfig) (a b : Arg) (m n : Selection c.config.af),
    select c.config.af (.err a) = .ok m → select c.config.af (.err b) = .ok n →
    encodeFrame c.config m = encodeFrame c.config n → a = b

/-- R91 (a) and its consequence for INT: from the frame of an accepted `INT v` one recovers the sign and the ones digit
always, the tens digit where neither is 0, and all of `v` where the blank entry of `DT1` differs from the numerals 1..9 (a
premise on `Config` the spec does not state, 93_implementation_defined.md U10). -/
def Obligations.IntValuesAreRecovered : Prop :=
  ∀ (c : LegalConfig) (a b : Arg) (m n : Selection c.config.af),
    select c.config.af (.int a) = .ok m → select c.config.af (.int b) = .ok n →
    encodeFrame c.config m = encodeFrame c.config n →
    (a.toInt < 0 ↔ b.toInt < 0) ∧ a.toInt.natAbs % 10 = b.toInt.natAbs % 10 ∧
    (a.toInt.natAbs / 10 ≠ 0 → b.toInt.natAbs / 10 ≠ 0 → a = b) ∧
    ((∀ d : Fin 10, d ≠ 0 → c.config.dt1[d.val] ≠ 0#7) → a = b)

/-! ## Rejects and the handshake -/

/-- 60_exceptions.md R130: the complete list of causes, each with its number and exactly its condition; BLANK and DASHES
never reject; a reject records the cause code only. -/
def Obligations.RejectCausesAreComplete : Prop :=
  ∀ (af : AnimCount) (w : CmdWord),
    (decodeCommand af w = .error .range ↔
      opField w = 3#3 ∧ ((argField w).toInt < -99 ∨ 99 < (argField w).toInt)) ∧
    (decodeCommand af w = .error .op ↔ opField w = 5#3 ∨ opField w = 6#3 ∨ opField w = 7#3) ∧
    (decodeCommand af w = .error .code ↔ opField w = 2#3 ∧ 99 < (argField w).toNat) ∧
    (decodeCommand af w = .error .anim ↔ opField w = 4#3 ∧ af.count ≤ (argField w).toNat) ∧
    (opField w = 0#3 ∨ opField w = 1#3 → ∃ i, decodeCommand af w = .ok i) ∧
    (∀ (s : State) (c : Cause), s.raiseReject c =
      { s with fault := true, cause := if s.fault = true then s.cause else c.number }) ∧
    Cause.range.number = 1#3 ∧ Cause.op.number = 2#3 ∧ Cause.code.number = 3#3 ∧ Cause.anim.number = 4#3

/-- R134: a rejected word at an idle tick records its cause if none is recorded, and changes nothing else; the block is
ready for the next word. -/
def Obligations.RejectTakesOneTick : Prop :=
  ∀ (s : State) (w : CmdWord) (c : Cause), s.ph = .idle → decodeCommand s.cfg.config.af w = .error c →
    (s.fault = false → issueWord w s = .next { s with fault := true, cause := c.number }) ∧
    (s.fault = true → issueWord w s = .next s) ∧
    ∀ t, issueWord w s = .next t → t.cmdReady = true

/-- R85 to R87: the operands each command rejects, and with which cause, on an idle block with no reject recorded. -/
def Obligations.IllegalOperandsReject : Prop :=
  ∀ s : State, s.ph = .idle → s.fault = false →
    (∀ a : Arg, 99 < a.toNat → exec (.err a) s = .next { s with fault := true, cause := 3#3 }) ∧
    (∀ a : Arg, a.toInt < -99 ∨ 99 < a.toInt → exec (.int a) s = .next { s with fault := true, cause := 1#3 }) ∧
    (∀ a : Arg, s.cfg.config.af.count ≤ a.toNat → exec (.anim a) s = .next { s with fault := true, cause := 4#3 })

/-- R141 and 41_serial_line_driver.md R112: a busy block transfers no command and looks at no input but `rst`. -/
def Obligations.BusyBlockLooksAtResetOnly : Prop :=
  ∀ (s : State), s.ph ≠ .idle →
    (∀ i, exec i s = .next s) ∧
    ∀ p q : PortInput, p.rst = q.rst → p.tick = q.tick → edgeStep p s = edgeStep q s

/-- 10_state.md R27, 60_exceptions.md R133, R135: a recorded reject stays as it is until reset. -/
def Obligations.RejectRecordIsSticky : Prop :=
  ∀ s t : State, step s = .next t → s.input.rst = false → s.fault = true → t.fault = true ∧ t.cause = s.cause

/-- R27, R135: the reject record influences nothing: with any other record the step does the same to everything else. -/
def Obligations.RejectRecordInfluencesNothing : Prop :=
  ∀ (s : State) (f : Bool) (c : BitVec 3),
    (∀ t, step s = .next t → ∃ t', step { s with fault := f, cause := c } = .next t' ∧
      { t' with fault := false, cause := 0#3 } = { t with fault := false, cause := 0#3 }) ∧
    ∀ r, step s = .fault r → step { s with fault := f, cause := c } = .fault r

/-- R130, R27: the reject record is 0 and 0, or 1 and one of the causes 1 to 4; every step keeps it so. -/
def Obligations.RejectRecordInvariantKept : Prop :=
  ∀ s t : State, RejectRecordOk s → step s = .next t → RejectRecordOk t

/-- R139, 70_reset_and_hazards.md R162: a HOST that keeps its duties is never rejected and never leaves the display
undefined (the record `rxUnknown` is the model's, notes/assumptions/11.md). -/
def Obligations.DutifulHostIsNeverRejected : Prop :=
  ∀ s t : State, HostDuty s → step s = .next t → (t.fault = true → s.fault = true) ∧ (t.rxUnknown = true → s.rxUnknown = true)

/-! ## The driver -/

/-- 41_serial_line_driver.md R108 whole: `Step(S, in)`, every case. -/
def Obligations.DriverStepFollowsTheTickRule : Prop :=
  ∀ (p : PortInput) (s : State),
    (p.rst = true → ∃ unspecified : Frame, driverStep p s = .next
      { s with
        ph := .idle, bit := 0, cnt := 0, clockLine := .z, dataLine := .z, latchLine := .z
        fault := false, cause := 0#3, fr := unspecified }) ∧
    (p.rst = false → s.ph = .idle → p.cmdValid = false → driverStep p s = .next s) ∧
    (p.rst = false → s.ph = .idle → p.cmdValid = true → ∀ c, decodeCommand s.cfg.config.af p.cmd = .error c →
      driverStep p s = .next (if s.fault = false then { s with fault := true, cause := c.number } else s)) ∧
    (p.rst = false → s.ph = .idle → p.cmdValid = true → ∀ i, decodeCommand s.cfg.config.af p.cmd = .ok i →
      ∃ m, select s.cfg.config.af i = .ok m ∧ driverStep p s = .next
        { s with
          fr := encodeFrame s.cfg.config m, latchLine := .low
          ph := .lsettle, cnt := s.cfg.config.tLSettle, bit := 0 }) ∧
    (p.rst = false → s.ph ≠ .idle → 1 < s.cnt → driverStep p s = .next { s with cnt := s.cnt - 1 }) ∧
    (p.rst = false → s.ph = .lsettle → s.cnt = 1 → driverStep p s = .next
      { s with
        dataLine := dataState s.cfg.config.pol (s.fr.getLsbD 15), ph := .setup, cnt := s.cfg.config.tSetup }) ∧
    (p.rst = false → s.ph = .setup → s.cnt = 1 → driverStep p s = .next
      { s with clockLine := .z, ph := .chigh, cnt := s.cfg.config.tHalf }) ∧
    (p.rst = false → s.ph = .chigh → s.cnt = 1 → driverStep p s = .next
      { s with clockLine := .low, ph := .clow, cnt := s.cfg.config.tHalf }) ∧
    (p.rst = false → s.ph = .clow → s.cnt = 1 → s.bit.val < 15 → driverStep p s = .next
      { s with
        bit := s.bit + 1, dataLine := dataState s.cfg.config.pol (s.fr.getLsbD (15 - (s.bit.val + 1)))
        ph := .setup, cnt := s.cfg.config.tSetup }) ∧
    (p.rst = false → s.ph = .clow → s.cnt = 1 → s.bit.val = 15 → driverStep p s = .next
      { s with latchLine := .z, bit := 0, ph := .lhigh, cnt := s.cfg.config.tLHigh }) ∧
    (p.rst = false → s.ph = .lhigh → s.cnt = 1 → driverStep p s = .next
      { s with latchLine := .low, ph := .lfinal, cnt := s.cfg.config.tLFinal }) ∧
    (p.rst = false → s.ph = .lfinal → s.cnt = 1 → driverStep p s = .next
      { s with latchLine := .z, dataLine := .z, clockLine := .z, ph := .idle, cnt := 0 })

/-- R31, R150 (the inputs, the receiver and the free values in State are the model's choice, notes/assumptions/1.md, 3.md, 7.md,
9.md, 10.md, 11.md, 16.md): what a step does around the driver: an edge with `rst` or `tick` runs it, any other leaves BPDC as it
is; HOST's next input comes up and the receiver sees the boundary. -/
def Obligations.StepIsTheDriverAtAnEdge : Prop :=
  ∀ s t : State, step s = .next t ↔
    ∃ d, (if s.input.rst = true ∨ s.input.tick = true then driverStep s.input s = .next d else d = s) ∧
      t = { d with
        inputs := s.inputs.tail
        rx := receiverBoundary s.rx s.wires d.wires (Config.racedDataBit s.draws)
        rxUnknown := unknownAfter s.input.rst s d
        draws := s.draws + 1 }

/-- R31, R108 (what stands around `exec` is the model's choice, notes/assumptions/1.md, 3.md, 7.md,
9.md, 10.md, 11.md, 16.md): a step runs the decoded instruction: at a tick at which HOST presents a word to the idle block, the
step is `exec` of what the word decodes to, with the next input, the receiver's boundary and the used free values around it. -/
def Obligations.StepRunsDecodedInstruction : Prop :=
  ∀ (s : State) (i : Instr), s.ph = .idle → s.input.rst = false → s.input.tick = true → s.input.cmdValid = true →
    decode s.input.cmd = .ok i →
    ∃ t, exec i s = .next t ∧ step s = .next
      { t with
        inputs := s.inputs.tail
        rx := receiverBoundary s.rx s.wires t.wires (Config.racedDataBit s.draws)
        rxUnknown := unknownAfter false s t
        draws := s.draws + 1 }

/-- 70_reset_and_hazards.md R150, R151: reset, at any edge with `rst` and in any state, whatever `tick` is; `Config` is not
touched. -/
def Obligations.ResetAtAnyEdge : Prop :=
  ∀ s : State, s.input.rst = true → ∃ t, step s = .next t ∧
    t.ph = .idle ∧ t.bit = 0 ∧ t.cnt = 0 ∧ t.clockLine = .z ∧ t.dataLine = .z ∧ t.latchLine = .z ∧
    t.fault = false ∧ t.cause = 0#3 ∧ t.cmdReady = true ∧ t.cfg = s.cfg

/-- 10_state.md R32: the reset values the spec gives. (`FR` is unspecified there, and nothing is said of it here.) -/
def Obligations.ResetStateValues : Prop :=
  State.reset.ph = .idle ∧ State.reset.bit = 0 ∧ State.reset.cnt = 0 ∧
  State.reset.clockLine = .z ∧ State.reset.latchLine = .z ∧ State.reset.dataLine = .z ∧
  State.reset.fault = false ∧ State.reset.cause = 0#3

/-- R34: the invariant table holds at reset. -/
def Obligations.DriverInvariantAtReset : Prop := DriverInv State.reset

/-- R34: every step keeps the invariant table. -/
def Obligations.DriverInvariantKept : Prop :=
  ∀ s t : State, DriverInv s → step s = .next t → DriverInv t

/-- R34, R113: in a state that meets the table the machine never stops. -/
def Obligations.InvariantStatesNeverStop : Prop :=
  ∀ s : State, DriverInv s → ∃ t, step s = .next t

/-- R33, R111: whenever a render is over, by FINISH or by reset, the driver is in its one idle state. -/
def Obligations.RenderEndsInTheIdleState : Prop :=
  ∀ s t : State, DriverInv s → step s = .next t → s.busy = true → t.busy = false → IdleState t

/-- 10_state.md R22, 20_memory.md R53: `FR` changes only at a reset and at an accept. -/
def Obligations.FrameConstantDuringRender : Prop :=
  ∀ s t : State, step s = .next t → t.fr ≠ s.fr →
    s.input.rst = true ∨ (s.ph = .idle ∧ t.ph = .lsettle)

/-- R21, 70_reset_and_hazards.md R161 (that `Config` rides in State is the model's choice, notes/assumptions/1.md): no step
changes `Config`; nor the receiver's parameters (20_memory.md R48). -/
def Obligations.ConfigNeverChanges : Prop :=
  ∀ s t : State, step s = .next t → t.cfg = s.cfg ∧ t.rx.sample = s.rx.sample ∧ t.rx.commit = s.rx.commit

/-- 20_memory.md R51: at most one line changes at a boundary, but at FINISH and at a reset. -/
def Obligations.OneLineChangesAtABoundary : Prop :=
  ∀ s t : State, step s = .next t → s.input.rst = false → ¬(s.ph = .lfinal ∧ t.ph = .idle) →
    (t.dataLine = s.dataLine ∧ t.latchLine = s.latchLine) ∨
    (t.clockLine = s.clockLine ∧ t.latchLine = s.latchLine) ∨
    (t.clockLine = s.clockLine ∧ t.dataLine = s.dataLine)

/-- 41_serial_line_driver.md R102: the polarity rule, and `POL` is read nowhere else: a step with the other polarity does the
same to everything but DATA and what the receiver sees. -/
def Obligations.PolarityTouchesDataOnly : Prop :=
  (dataState false true = .z ∧ dataState false false = .low ∧ dataState true true = .low ∧ dataState true false = .z) ∧
  ∀ (s t : State) (pol : Bool), step s = .next t →
    ∃ t', step { s with cfg := s.cfg.withPol pol } = .next t' ∧
      t'.ph = t.ph ∧ t'.bit = t.bit ∧ t'.cnt = t.cnt ∧ t'.fr = t.fr ∧ t'.clockLine = t.clockLine ∧
      t'.latchLine = t.latchLine ∧ t'.fault = t.fault ∧ t'.cause = t.cause

/-- R109, which the spec derives from R108, with the numbers of its default case: after an accept the sequencer stands, tick by
tick, where the timeline says, with the frame captured; the lines are those of 10_state.md R34's table; after `D` ticks it is
idle. -/
def Obligations.RenderFollowsTheTimeline : Prop :=
  (∀ (s : State) (fr : Frame), AcceptsFrame s fr → UndisturbedFor s (1 + renderTicks s.cfg.config) →
    ∀ j ≤ renderTicks s.cfg.config, ∃ t, Host.Core.run core (1 + j) s = .next t ∧
      t.busy = decide (j < renderTicks s.cfg.config) ∧
      t.ph = (placeAt s.cfg.config j).ph ∧ t.bit.val = (placeAt s.cfg.config j).bit ∧
      t.cnt = (placeAt s.cfg.config j).cnt ∧ t.fr = fr ∧ DriverInv t) ∧
  ∀ c : Config, c.tHalf = 5 → c.tSetup = 1 → c.tLSettle = 4 → c.tLHigh = 8 → c.tLFinal = 4 →
    bitPeriod c = 11 ∧ renderTicks c = 192

/-- R107, which the spec derives from R104 to R106, against the machine of R108: the trace of a render has 55 line events and 51
holds, holds for `D` time units, and is what the machine's lines do, each hold of `n` lasting `n` ticks. -/
def Obligations.RenderProducesTheTrace : Prop :=
  (∀ (c : Config) (fr : Frame),
    lineEventCount (renderEvents c fr) = 55 ∧ holdCount (renderEvents c fr) = 51 ∧
    holdTotal (renderEvents c fr) = renderTicks c) ∧
  ∀ (s : State) (fr : Frame), AcceptsFrame s fr → UndisturbedFor s (1 + renderTicks s.cfg.config) →
    (∀ j < renderTicks s.cfg.config, ∃ t, Host.Core.run core (1 + j) s = .next t ∧
      (play (renderEvents s.cfg.config fr) Lines.released)[j]? = some t.lines) ∧
    ∃ t, Host.Core.run core (1 + renderTicks s.cfg.config) s = .next t ∧
      t.lines = playEnd (renderEvents s.cfg.config fr) Lines.released ∧ t.lines = Lines.released

/-- R112, 70_reset_and_hazards.md R159: HOST waits at most `D` ticks for a busy block. -/
def Obligations.BusyBlockBecomesReady : Prop :=
  ∀ s : State, DriverInv s → UndisturbedFor s (renderTicks s.cfg.config) →
    ∃ k ≤ renderTicks s.cfg.config, ∃ t, Host.Core.run core k s = .next t ∧ t.cmdReady = true

/-! ## The environment -/

/-- 20_memory.md R49: what the reference receiver does at each boundary. Where CLOCK and LATCH show the receiver's two edges at
one boundary, R49 lets a model take any value for `OUT`; that `OUT` is then the `SR` from before is the model's choice
(notes/assumptions/10.md). The levels whose edges count rest on the assumptions of 70_reset_and_hazards.md R155, which the model
takes (notes/assumptions/16.md); the bit shifted in while DATA changes is left open (notes/assumptions/9.md). -/
def Obligations.ReceiverShiftsAndCommits : Prop :=
  ∀ s t : State, step s = .next t →
    ((edgeOf s.clockLine.level t.clockLine.level = some s.rx.sample →
        ∃ d : Bool, t.rx.sr = (s.rx.sr.setWidth 15 ++ BitVec.ofBool d : BitVec (15 + 1)) ∧
          (s.dataLine = t.dataLine → d = t.dataLine.level)) ∧
      (edgeOf s.clockLine.level t.clockLine.level ≠ some s.rx.sample → t.rx.sr = s.rx.sr) ∧
      (edgeOf s.latchLine.level t.latchLine.level = some s.rx.commit → t.rx.out = s.rx.sr) ∧
      (edgeOf s.latchLine.level t.latchLine.level ≠ some s.rx.commit → t.rx.out = s.rx.out))

/-- R50, first case: a receiver that shifts on the falling edge of CLOCK holds and shows exactly the frame when the render
ends, whichever LATCH edge commits. The clauses `t.rxUnknown = false` and `t.displayed = fr` rest on the model's own record of
unknown contents (notes/assumptions/11.md), the levels on the assumptions of 70_reset_and_hazards.md R155
(notes/assumptions/16.md). -/
def Obligations.FallingEdgeReceiverShowsTheFrame : Prop :=
  ∀ (s : State) (fr : Frame), AcceptsFrame s fr → UndisturbedFor s (1 + renderTicks s.cfg.config) → s.rx.sample = .fall →
    ∃ t, Host.Core.run core (1 + renderTicks s.cfg.config) s = .next t ∧
      t.rx.sr = xorPol s.cfg.config.pol fr ∧ t.rx.out = t.rx.sr ∧ t.rxUnknown = false ∧ t.displayed = fr

/-- R50, second case: a receiver that shifts on the rising edge shows the frame misaligned by one bit: its old last bit comes
first and the first bit of the frame is lost. With `RX.commit` the rising edge of LATCH, CLOCK and LATCH both rise at FINISH; that
`OUT` is then the `SR` from before that boundary is the model's choice (notes/assumptions/10.md). The levels rest on the
assumptions of 70_reset_and_hazards.md R155 (notes/assumptions/16.md). -/
def Obligations.RisingEdgeReceiverIsMisaligned : Prop :=
  ∀ (s : State) (fr : Frame), AcceptsFrame s fr → UndisturbedFor s (1 + renderTicks s.cfg.config) → s.rx.sample = .rise →
    ∃ t, Host.Core.run core (1 + renderTicks s.cfg.config) s = .next t ∧
      t.rx.out = (BitVec.ofBool (s.rx.sr.getLsbD 0) ++ (xorPol s.cfg.config.pol fr).setWidth 15 : BitVec (1 + 15))

/-- 70_reset_and_hazards.md R158: a reset during a render leaves the receiver's contents any value, until a render has
completed (the record of it and the free values are the model's, notes/assumptions/11.md). -/
def Obligations.BrokenRenderLeavesDisplayUnknown : Prop :=
  ∀ s t : State, step s = .next t →
    (s.input.rst = true → s.busy = true → t.rxUnknown = true) ∧
    (s.rxUnknown = true → ¬(s.input.rst = false ∧ s.ph = .lfinal ∧ t.ph = .idle) → t.rxUnknown = true) ∧
    (t.rxUnknown = true → t.receiverContents = (Config.srWhenUnknown t.draws, Config.outWhenUnknown t.draws)) ∧
    (t.rxUnknown = false → t.receiverContents = (t.rx.sr, t.rx.out))

/-- 10_state.md R28, R31: the outputs. The last three clauses, the wire levels, are the model's choice (notes/assumptions/16.md):
70_reset_and_hazards.md R155 gives levels only under three assumptions, the third of them the spec's own, and the model takes
them. -/
def Obligations.OutputsFollowTheState : Prop :=
  ∀ s : State,
    (s.outputs.busy = true ↔ s.ph ≠ .idle) ∧ s.outputs.cmdReady = !s.outputs.busy ∧
    s.outputs.fault = s.fault ∧ s.outputs.cause = s.cause ∧
    (s.outputs.clockLow = true ↔ s.clockLine = .low) ∧ (s.outputs.dataLow = true ↔ s.dataLine = .low) ∧
    (s.outputs.latchLow = true ↔ s.latchLine = .low) ∧
    s.wires.clock = !s.outputs.clockLow ∧ s.wires.data = !s.outputs.dataLow ∧ s.wires.latch = !s.outputs.latchLow
end

