-- ==== Sys2Proof/Laws/State.lean ====
section
/-! SUPPORT. One lemma per field for each update of the state (10_state.md R20), so that no proof unfolds a record update. -/

namespace Sys2Proof.Machine

@[simp] theorem State.setLine_ph (s : State) (X : Line) (v : LineState) : (s.setLine X v).ph = s.ph := rfl
@[simp] theorem State.setLine_bit (s : State) (X : Line) (v : LineState) : (s.setLine X v).bit = s.bit := rfl
@[simp] theorem State.setLine_cnt (s : State) (X : Line) (v : LineState) : (s.setLine X v).cnt = s.cnt := rfl
@[simp] theorem State.setLine_fr (s : State) (X : Line) (v : LineState) : (s.setLine X v).fr = s.fr := rfl
@[simp] theorem State.setLine_fault (s : State) (X : Line) (v : LineState) : (s.setLine X v).fault = s.fault := rfl
@[simp] theorem State.setLine_cause (s : State) (X : Line) (v : LineState) : (s.setLine X v).cause = s.cause := rfl
@[simp] theorem State.setLine_cfg (s : State) (X : Line) (v : LineState) : (s.setLine X v).cfg = s.cfg := rfl
@[simp] theorem State.setLine_inputs (s : State) (X : Line) (v : LineState) : (s.setLine X v).inputs = s.inputs := rfl
@[simp] theorem State.setLine_rx (s : State) (X : Line) (v : LineState) : (s.setLine X v).rx = s.rx := rfl
@[simp] theorem State.setLine_rxUnknown (s : State) (X : Line) (v : LineState) :
    (s.setLine X v).rxUnknown = s.rxUnknown := rfl
@[simp] theorem State.setLine_draws (s : State) (X : Line) (v : LineState) : (s.setLine X v).draws = s.draws := rfl
@[simp] theorem State.setLine_clock_clockLine (s : State) (v : LineState) : (s.setLine .clock v).clockLine = v := rfl
@[simp] theorem State.setLine_clock_dataLine (s : State) (v : LineState) :
    (s.setLine .clock v).dataLine = s.dataLine := rfl
@[simp] theorem State.setLine_clock_latchLine (s : State) (v : LineState) :
    (s.setLine .clock v).latchLine = s.latchLine := rfl
@[simp] theorem State.setLine_data_clockLine (s : State) (v : LineState) :
    (s.setLine .data v).clockLine = s.clockLine := rfl
@[simp] theorem State.setLine_data_dataLine (s : State) (v : LineState) : (s.setLine .data v).dataLine = v := rfl
@[simp] theorem State.setLine_data_latchLine (s : State) (v : LineState) :
    (s.setLine .data v).latchLine = s.latchLine := rfl
@[simp] theorem State.setLine_latch_clockLine (s : State) (v : LineState) :
    (s.setLine .latch v).clockLine = s.clockLine := rfl
@[simp] theorem State.setLine_latch_dataLine (s : State) (v : LineState) :
    (s.setLine .latch v).dataLine = s.dataLine := rfl
@[simp] theorem State.setLine_latch_latchLine (s : State) (v : LineState) : (s.setLine .latch v).latchLine = v := rfl

@[simp] theorem State.driveLow_ph (s : State) (X : Line) : (s.driveLow X).ph = s.ph := rfl
@[simp] theorem State.driveLow_bit (s : State) (X : Line) : (s.driveLow X).bit = s.bit := rfl
@[simp] theorem State.driveLow_cnt (s : State) (X : Line) : (s.driveLow X).cnt = s.cnt := rfl
@[simp] theorem State.driveLow_fr (s : State) (X : Line) : (s.driveLow X).fr = s.fr := rfl
@[simp] theorem State.driveLow_fault (s : State) (X : Line) : (s.driveLow X).fault = s.fault := rfl
@[simp] theorem State.driveLow_cause (s : State) (X : Line) : (s.driveLow X).cause = s.cause := rfl
@[simp] theorem State.driveLow_cfg (s : State) (X : Line) : (s.driveLow X).cfg = s.cfg := rfl
@[simp] theorem State.driveLow_inputs (s : State) (X : Line) : (s.driveLow X).inputs = s.inputs := rfl
@[simp] theorem State.driveLow_rx (s : State) (X : Line) : (s.driveLow X).rx = s.rx := rfl
@[simp] theorem State.driveLow_rxUnknown (s : State) (X : Line) : (s.driveLow X).rxUnknown = s.rxUnknown := rfl
@[simp] theorem State.driveLow_draws (s : State) (X : Line) : (s.driveLow X).draws = s.draws := rfl
@[simp] theorem State.driveLow_clock_clockLine (s : State) : (s.driveLow .clock).clockLine = .low := rfl
@[simp] theorem State.driveLow_clock_dataLine (s : State) : (s.driveLow .clock).dataLine = s.dataLine := rfl
@[simp] theorem State.driveLow_clock_latchLine (s : State) : (s.driveLow .clock).latchLine = s.latchLine := rfl
@[simp] theorem State.driveLow_data_clockLine (s : State) : (s.driveLow .data).clockLine = s.clockLine := rfl
@[simp] theorem State.driveLow_data_dataLine (s : State) : (s.driveLow .data).dataLine = .low := rfl
@[simp] theorem State.driveLow_data_latchLine (s : State) : (s.driveLow .data).latchLine = s.latchLine := rfl
@[simp] theorem State.driveLow_latch_clockLine (s : State) : (s.driveLow .latch).clockLine = s.clockLine := rfl
@[simp] theorem State.driveLow_latch_dataLine (s : State) : (s.driveLow .latch).dataLine = s.dataLine := rfl
@[simp] theorem State.driveLow_latch_latchLine (s : State) : (s.driveLow .latch).latchLine = .low := rfl

@[simp] theorem State.release_ph (s : State) (X : Line) : (s.release X).ph = s.ph := rfl
@[simp] theorem State.release_bit (s : State) (X : Line) : (s.release X).bit = s.bit := rfl
@[simp] theorem State.release_cnt (s : State) (X : Line) : (s.release X).cnt = s.cnt := rfl
@[simp] theorem State.release_fr (s : State) (X : Line) : (s.release X).fr = s.fr := rfl
@[simp] theorem State.release_fault (s : State) (X : Line) : (s.release X).fault = s.fault := rfl
@[simp] theorem State.release_cause (s : State) (X : Line) : (s.release X).cause = s.cause := rfl
@[simp] theorem State.release_cfg (s : State) (X : Line) : (s.release X).cfg = s.cfg := rfl
@[simp] theorem State.release_inputs (s : State) (X : Line) : (s.release X).inputs = s.inputs := rfl
@[simp] theorem State.release_rx (s : State) (X : Line) : (s.release X).rx = s.rx := rfl
@[simp] theorem State.release_rxUnknown (s : State) (X : Line) : (s.release X).rxUnknown = s.rxUnknown := rfl
@[simp] theorem State.release_draws (s : State) (X : Line) : (s.release X).draws = s.draws := rfl
@[simp] theorem State.release_clock_clockLine (s : State) : (s.release .clock).clockLine = .z := rfl
@[simp] theorem State.release_clock_dataLine (s : State) : (s.release .clock).dataLine = s.dataLine := rfl
@[simp] theorem State.release_clock_latchLine (s : State) : (s.release .clock).latchLine = s.latchLine := rfl
@[simp] theorem State.release_data_clockLine (s : State) : (s.release .data).clockLine = s.clockLine := rfl
@[simp] theorem State.release_data_dataLine (s : State) : (s.release .data).dataLine = .z := rfl
@[simp] theorem State.release_data_latchLine (s : State) : (s.release .data).latchLine = s.latchLine := rfl
@[simp] theorem State.release_latch_clockLine (s : State) : (s.release .latch).clockLine = s.clockLine := rfl
@[simp] theorem State.release_latch_dataLine (s : State) : (s.release .latch).dataLine = s.dataLine := rfl
@[simp] theorem State.release_latch_latchLine (s : State) : (s.release .latch).latchLine = .z := rfl

@[simp] theorem State.setDataBit_ph (s : State) (k : Nat) : (s.setDataBit k).ph = s.ph := rfl
@[simp] theorem State.setDataBit_bit (s : State) (k : Nat) : (s.setDataBit k).bit = s.bit := rfl
@[simp] theorem State.setDataBit_cnt (s : State) (k : Nat) : (s.setDataBit k).cnt = s.cnt := rfl
@[simp] theorem State.setDataBit_fr (s : State) (k : Nat) : (s.setDataBit k).fr = s.fr := rfl
@[simp] theorem State.setDataBit_clockLine (s : State) (k : Nat) : (s.setDataBit k).clockLine = s.clockLine := rfl
@[simp] theorem State.setDataBit_dataLine (s : State) (k : Nat) :
    (s.setDataBit k).dataLine = dataState s.cfg.config.pol (frameBit s.fr k) := rfl
@[simp] theorem State.setDataBit_latchLine (s : State) (k : Nat) : (s.setDataBit k).latchLine = s.latchLine := rfl
@[simp] theorem State.setDataBit_fault (s : State) (k : Nat) : (s.setDataBit k).fault = s.fault := rfl
@[simp] theorem State.setDataBit_cause (s : State) (k : Nat) : (s.setDataBit k).cause = s.cause := rfl
@[simp] theorem State.setDataBit_cfg (s : State) (k : Nat) : (s.setDataBit k).cfg = s.cfg := rfl
@[simp] theorem State.setDataBit_inputs (s : State) (k : Nat) : (s.setDataBit k).inputs = s.inputs := rfl
@[simp] theorem State.setDataBit_rx (s : State) (k : Nat) : (s.setDataBit k).rx = s.rx := rfl
@[simp] theorem State.setDataBit_rxUnknown (s : State) (k : Nat) : (s.setDataBit k).rxUnknown = s.rxUnknown := rfl
@[simp] theorem State.setDataBit_draws (s : State) (k : Nat) : (s.setDataBit k).draws = s.draws := rfl

@[simp] theorem State.enter_ph (s : State) (p : Phase) (n : Nat) : (s.enter p n).ph = p := rfl
@[simp] theorem State.enter_bit (s : State) (p : Phase) (n : Nat) : (s.enter p n).bit = s.bit := rfl
@[simp] theorem State.enter_cnt (s : State) (p : Phase) (n : Nat) : (s.enter p n).cnt = n := rfl
@[simp] theorem State.enter_fr (s : State) (p : Phase) (n : Nat) : (s.enter p n).fr = s.fr := rfl
@[simp] theorem State.enter_clockLine (s : State) (p : Phase) (n : Nat) : (s.enter p n).clockLine = s.clockLine := rfl
@[simp] theorem State.enter_dataLine (s : State) (p : Phase) (n : Nat) : (s.enter p n).dataLine = s.dataLine := rfl
@[simp] theorem State.enter_latchLine (s : State) (p : Phase) (n : Nat) : (s.enter p n).latchLine = s.latchLine := rfl
@[simp] theorem State.enter_fault (s : State) (p : Phase) (n : Nat) : (s.enter p n).fault = s.fault := rfl
@[simp] theorem State.enter_cause (s : State) (p : Phase) (n : Nat) : (s.enter p n).cause = s.cause := rfl
@[simp] theorem State.enter_cfg (s : State) (p : Phase) (n : Nat) : (s.enter p n).cfg = s.cfg := rfl
@[simp] theorem State.enter_inputs (s : State) (p : Phase) (n : Nat) : (s.enter p n).inputs = s.inputs := rfl
@[simp] theorem State.enter_rx (s : State) (p : Phase) (n : Nat) : (s.enter p n).rx = s.rx := rfl
@[simp] theorem State.enter_rxUnknown (s : State) (p : Phase) (n : Nat) : (s.enter p n).rxUnknown = s.rxUnknown := rfl
@[simp] theorem State.enter_draws (s : State) (p : Phase) (n : Nat) : (s.enter p n).draws = s.draws := rfl

@[simp] theorem State.startRender_ph (s : State) (frame : Frame) : (s.startRender frame).ph = .lsettle := rfl
@[simp] theorem State.startRender_bit (s : State) (frame : Frame) : (s.startRender frame).bit = 0 := rfl
@[simp] theorem State.startRender_cnt (s : State) (frame : Frame) :
    (s.startRender frame).cnt = s.cfg.config.tLSettle := rfl
@[simp] theorem State.startRender_fr (s : State) (frame : Frame) : (s.startRender frame).fr = frame := rfl
@[simp] theorem State.startRender_clockLine (s : State) (frame : Frame) :
    (s.startRender frame).clockLine = s.clockLine := rfl
@[simp] theorem State.startRender_dataLine (s : State) (frame : Frame) :
    (s.startRender frame).dataLine = s.dataLine := rfl
@[simp] theorem State.startRender_latchLine (s : State) (frame : Frame) :
    (s.startRender frame).latchLine = .low := rfl
@[simp] theorem State.startRender_fault (s : State) (frame : Frame) : (s.startRender frame).fault = s.fault := rfl
@[simp] theorem State.startRender_cause (s : State) (frame : Frame) : (s.startRender frame).cause = s.cause := rfl
@[simp] theorem State.startRender_cfg (s : State) (frame : Frame) : (s.startRender frame).cfg = s.cfg := rfl
@[simp] theorem State.startRender_inputs (s : State) (frame : Frame) : (s.startRender frame).inputs = s.inputs := rfl
@[simp] theorem State.startRender_rx (s : State) (frame : Frame) : (s.startRender frame).rx = s.rx := rfl
@[simp] theorem State.startRender_rxUnknown (s : State) (frame : Frame) :
    (s.startRender frame).rxUnknown = s.rxUnknown := rfl
@[simp] theorem State.startRender_draws (s : State) (frame : Frame) : (s.startRender frame).draws = s.draws := rfl

@[simp] theorem State.raiseReject_ph (s : State) (c : Cause) :
    (s.raiseReject c).ph = s.ph := by
  unfold State.raiseReject; split <;> rfl
@[simp] theorem State.raiseReject_bit (s : State) (c : Cause) :
    (s.raiseReject c).bit = s.bit := by
  unfold State.raiseReject; split <;> rfl
@[simp] theorem State.raiseReject_cnt (s : State) (c : Cause) :
    (s.raiseReject c).cnt = s.cnt := by
  unfold State.raiseReject; split <;> rfl
@[simp] theorem State.raiseReject_fr (s : State) (c : Cause) :
    (s.raiseReject c).fr = s.fr := by
  unfold State.raiseReject; split <;> rfl
@[simp] theorem State.raiseReject_clockLine (s : State) (c : Cause) :
    (s.raiseReject c).clockLine = s.clockLine := by
  unfold State.raiseReject; split <;> rfl
@[simp] theorem State.raiseReject_dataLine (s : State) (c : Cause) :
    (s.raiseReject c).dataLine = s.dataLine := by
  unfold State.raiseReject; split <;> rfl
@[simp] theorem State.raiseReject_latchLine (s : State) (c : Cause) :
    (s.raiseReject c).latchLine = s.latchLine := by
  unfold State.raiseReject; split <;> rfl
@[simp] theorem State.raiseReject_fault (s : State) (c : Cause) :
    (s.raiseReject c).fault = true := by
  unfold State.raiseReject; split <;> simp_all
@[simp] theorem State.raiseReject_cause (s : State) (c : Cause) :
    (s.raiseReject c).cause = if s.fault = true then s.cause else c.number := by
  unfold State.raiseReject; split <;> rfl
@[simp] theorem State.raiseReject_cfg (s : State) (c : Cause) :
    (s.raiseReject c).cfg = s.cfg := by
  unfold State.raiseReject; split <;> rfl
@[simp] theorem State.raiseReject_inputs (s : State) (c : Cause) :
    (s.raiseReject c).inputs = s.inputs := by
  unfold State.raiseReject; split <;> rfl
@[simp] theorem State.raiseReject_rx (s : State) (c : Cause) :
    (s.raiseReject c).rx = s.rx := by
  unfold State.raiseReject; split <;> rfl
@[simp] theorem State.raiseReject_rxUnknown (s : State) (c : Cause) :
    (s.raiseReject c).rxUnknown = s.rxUnknown := by
  unfold State.raiseReject; split <;> rfl
@[simp] theorem State.raiseReject_draws (s : State) (c : Cause) :
    (s.raiseReject c).draws = s.draws := by
  unfold State.raiseReject; split <;> rfl

@[simp] theorem resetDriver_ph (s : State) : (resetDriver s).ph = .idle := rfl
@[simp] theorem resetDriver_bit (s : State) : (resetDriver s).bit = 0 := rfl
@[simp] theorem resetDriver_cnt (s : State) : (resetDriver s).cnt = 0 := rfl
@[simp] theorem resetDriver_fr (s : State) : (resetDriver s).fr = Config.frAfterReset s.draws := rfl
@[simp] theorem resetDriver_clockLine (s : State) : (resetDriver s).clockLine = .z := rfl
@[simp] theorem resetDriver_dataLine (s : State) : (resetDriver s).dataLine = .z := rfl
@[simp] theorem resetDriver_latchLine (s : State) : (resetDriver s).latchLine = .z := rfl
@[simp] theorem resetDriver_fault (s : State) : (resetDriver s).fault = false := rfl
@[simp] theorem resetDriver_cause (s : State) : (resetDriver s).cause = 0#3 := rfl
@[simp] theorem resetDriver_cfg (s : State) : (resetDriver s).cfg = s.cfg := rfl
@[simp] theorem resetDriver_inputs (s : State) : (resetDriver s).inputs = s.inputs := rfl
@[simp] theorem resetDriver_rx (s : State) : (resetDriver s).rx = s.rx := rfl
@[simp] theorem resetDriver_rxUnknown (s : State) : (resetDriver s).rxUnknown = s.rxUnknown := rfl
@[simp] theorem resetDriver_draws (s : State) : (resetDriver s).draws = s.draws := rfl

@[simp] theorem aroundEdge_ph (rst : Bool) (s t : State) : (aroundEdge rst s t).ph = t.ph := rfl
@[simp] theorem aroundEdge_bit (rst : Bool) (s t : State) : (aroundEdge rst s t).bit = t.bit := rfl
@[simp] theorem aroundEdge_cnt (rst : Bool) (s t : State) : (aroundEdge rst s t).cnt = t.cnt := rfl
@[simp] theorem aroundEdge_fr (rst : Bool) (s t : State) : (aroundEdge rst s t).fr = t.fr := rfl
@[simp] theorem aroundEdge_clockLine (rst : Bool) (s t : State) : (aroundEdge rst s t).clockLine = t.clockLine := rfl
@[simp] theorem aroundEdge_dataLine (rst : Bool) (s t : State) : (aroundEdge rst s t).dataLine = t.dataLine := rfl
@[simp] theorem aroundEdge_latchLine (rst : Bool) (s t : State) : (aroundEdge rst s t).latchLine = t.latchLine := rfl
@[simp] theorem aroundEdge_fault (rst : Bool) (s t : State) : (aroundEdge rst s t).fault = t.fault := rfl
@[simp] theorem aroundEdge_cause (rst : Bool) (s t : State) : (aroundEdge rst s t).cause = t.cause := rfl
@[simp] theorem aroundEdge_cfg (rst : Bool) (s t : State) : (aroundEdge rst s t).cfg = t.cfg := rfl
@[simp] theorem aroundEdge_inputs (rst : Bool) (s t : State) : (aroundEdge rst s t).inputs = s.inputs.tail := rfl
@[simp] theorem aroundEdge_rx (rst : Bool) (s t : State) :
    (aroundEdge rst s t).rx = receiverBoundary s.rx s.wires t.wires (Config.racedDataBit s.draws) := rfl
@[simp] theorem aroundEdge_rxUnknown (rst : Bool) (s t : State) :
    (aroundEdge rst s t).rxUnknown = unknownAfter rst s t := rfl
@[simp] theorem aroundEdge_draws (rst : Bool) (s t : State) : (aroundEdge rst s t).draws = s.draws + 1 := rfl

@[simp] theorem State.presenting_ph (s : State) (w : CmdWord) : (s.presenting w).ph = .idle := rfl
@[simp] theorem State.presenting_bit (s : State) (w : CmdWord) : (s.presenting w).bit = 0 := rfl
@[simp] theorem State.presenting_cnt (s : State) (w : CmdWord) : (s.presenting w).cnt = 0 := rfl
@[simp] theorem State.presenting_fr (s : State) (w : CmdWord) : (s.presenting w).fr = s.fr := rfl
@[simp] theorem State.presenting_clockLine (s : State) (w : CmdWord) : (s.presenting w).clockLine = .z := rfl
@[simp] theorem State.presenting_dataLine (s : State) (w : CmdWord) : (s.presenting w).dataLine = .z := rfl
@[simp] theorem State.presenting_latchLine (s : State) (w : CmdWord) : (s.presenting w).latchLine = .z := rfl
@[simp] theorem State.presenting_fault (s : State) (w : CmdWord) : (s.presenting w).fault = s.fault := rfl
@[simp] theorem State.presenting_cause (s : State) (w : CmdWord) : (s.presenting w).cause = s.cause := rfl
@[simp] theorem State.presenting_cfg (s : State) (w : CmdWord) : (s.presenting w).cfg = s.cfg := rfl
@[simp] theorem State.presenting_inputs (s : State) (w : CmdWord) :
    (s.presenting w).inputs = PortInput.present w :: s.inputs := rfl
@[simp] theorem State.presenting_rx (s : State) (w : CmdWord) : (s.presenting w).rx = s.rx := rfl
@[simp] theorem State.presenting_rxUnknown (s : State) (w : CmdWord) : (s.presenting w).rxUnknown = s.rxUnknown := rfl
@[simp] theorem State.presenting_draws (s : State) (w : CmdWord) : (s.presenting w).draws = s.draws := rfl

end Sys2Proof.Machine
end

