-- ==== Sys2Proof/Laws/Ops.lean ====
section
/-! SUPPORT. What each shared operation can do, said once: the operand checks and selections, the offer of a command, the
sequencer's advance, the receiver. Proofs cite these instead of unfolding the operations. -/

namespace Sys2Proof.Machine

@[simp] theorem State.busy_eq_true (s : State) : s.busy = true ↔ s.ph ≠ .idle := by simp [State.busy]

@[simp] theorem State.busy_eq_false (s : State) : s.busy = false ↔ s.ph = .idle := by simp [State.busy]

@[simp] theorem State.cmdReady_eq_true (s : State) : s.cmdReady = true ↔ s.ph = .idle := by simp [State.cmdReady]

/-- Entry 10 of both tables is blank (00_scope.md R5). -/
@[simp] theorem tableRead_blank_dt1 (c : LegalConfig) : tableRead c.config.dt1 blankIndex = 0#7 := c.legal.1.1

@[simp] theorem tableRead_blank_dt2 (c : LegalConfig) : tableRead c.config.dt2 blankIndex = 0#7 := c.legal.2.1.1

/-- The numerals of `DT1` are pairwise different (00_scope.md R5). -/
theorem tableRead_numeral_dt1_inj (c : LegalConfig) {d e : Nat} (hd : d ≤ 9) (he : e ≤ 9)
    (h : tableRead c.config.dt1 (numeralIndex d hd) = tableRead c.config.dt1 (numeralIndex e he)) : d = e := by
  have := c.legal.1.2 ⟨d, by omega⟩ ⟨e, by omega⟩ h
  simpa using this

/-- The numerals of `DT2` are pairwise different (00_scope.md R5). -/
theorem tableRead_numeral_dt2_inj (c : LegalConfig) {d e : Nat} (hd : d ≤ 9) (he : e ≤ 9)
    (h : tableRead c.config.dt2 (numeralIndex d hd) = tableRead c.config.dt2 (numeralIndex e he)) : d = e := by
  have := c.legal.2.1.2 ⟨d, by omega⟩ ⟨e, by omega⟩ h
  simpa using this

theorem select_blank (af : AnimCount) : select af .blank = .ok ⟨blankIndex, blankIndex, false, false⟩ := rfl

theorem select_dashes (af : AnimCount) : select af .dashes = .ok ⟨minusIndex, minusIndex, false, false⟩ := rfl

theorem select_err_ok (af : AnimCount) {arg : Arg} (h : zext8 arg ≤ 99) :
    select af (.err arg) = .ok ⟨numeralIndex (tensDigit (zext8 arg)) (tensDigit_le h),
      numeralIndex (onesDigit (zext8 arg)) (onesDigit_le _), false, false⟩ := dif_pos h

theorem select_err_error (af : AnimCount) {arg : Arg} (h : ¬ zext8 arg ≤ 99) :
    select af (.err arg) = .error .code := dif_neg h

theorem select_int_ok (af : AnimCount) {arg : Arg} (h : -99 ≤ sext8 arg ∧ sext8 arg ≤ 99) :
    select af (.int arg) = .ok ⟨suppressedTens (tensDigit (sext8 arg).natAbs) (tensDigit_le (by omega)),
      numeralIndex (onesDigit (sext8 arg).natAbs) (onesDigit_le _), minusFlag (sext8 arg), true⟩ := dif_pos h

theorem select_int_error (af : AnimCount) {arg : Arg} (h : ¬ (-99 ≤ sext8 arg ∧ sext8 arg ≤ 99)) :
    select af (.int arg) = .error .range := dif_neg h

theorem select_anim_ok (af : AnimCount) {arg : Arg} (h : zext8 arg < af.count) :
    select af (.anim arg) = .ok ⟨animIndex (zext8 arg) h, animIndex (zext8 arg) h, false, false⟩ :=
  dif_pos ((belowAnimCount_iff af _).2 h)

theorem select_anim_error (af : AnimCount) {arg : Arg} (h : ¬ zext8 arg < af.count) :
    select af (.anim arg) = .error .anim :=
  dif_neg (fun hb => h ((belowAnimCount_iff af _).1 hb))

/-- The multiplexer selects exactly for the well-formed commands. -/
theorem select_ok_iff_wellFormed (af : AnimCount) (i : Instr) : (∃ m, select af i = .ok m) ↔ WellFormed af i = true := by
  cases i with
  | blank => simp [select_blank, WellFormed]
  | dashes => simp [select_dashes, WellFormed]
  | err a =>
    by_cases h : zext8 a ≤ 99
    · simpa [select_err_ok af h, WellFormed, zext8] using h
    · simpa [select_err_error af h, WellFormed, zext8] using h
  | int a =>
    by_cases h : -99 ≤ sext8 a ∧ sext8 a ≤ 99
    · simpa [select_int_ok af h, WellFormed, sext8] using h
    · simpa [select_int_error af h, WellFormed, sext8] using h
  | anim a =>
    by_cases h : zext8 a < af.count
    · simpa [select_anim_ok af h, WellFormed, zext8] using h
    · simpa [select_anim_error af h, WellFormed, zext8] using h

/-- A leading zero is suppressed, any other tens digit shown (40_frame_encoder.md R86). -/
theorem suppressedTens_val {af : AnimCount} (t : Nat) (h : t ≤ 9) :
    (suppressedTens (af := af) t h).val = if t = 0 then 10 else t := by
  unfold suppressedTens; split <;> rfl

/-- Everything `offer` can do: it always answers a next state, one of three. -/
theorem offer_cases (s : State) (m : Except Cause (Selection s.cfg.config.af)) :
    (s.ph ≠ .idle ∧ offer s m = .next s) ∨
      (s.ph = .idle ∧ ∃ c, m = .error c ∧ offer s m = .next (s.raiseReject c)) ∨
      (s.ph = .idle ∧ ∃ sel, m = .ok sel ∧ offer s m = .next (s.startRender (encodeFrame s.cfg.config sel))) := by
  by_cases hp : s.ph = .idle
  · have hb : ¬ s.busy = true := by simp [hp]
    cases m with
    | error c => exact .inr (.inl ⟨hp, c, rfl, if_neg hb⟩)
    | ok sel => exact .inr (.inr ⟨hp, sel, rfl, if_neg hb⟩)
  · exact .inl ⟨hp, if_pos (by simp [hp])⟩

/-- `exec` is the offer of what the multiplexer selects. -/
theorem exec_eq_offer (i : Instr) (s : State) : exec i s = offer s (select s.cfg.config.af i) := by
  cases i <;> rfl

/-- Everything a command can do at the tick it is presented (41_serial_line_driver.md R108, 60_exceptions.md R141). -/
theorem exec_cases (i : Instr) (s : State) :
    (s.ph ≠ .idle ∧ exec i s = .next s) ∨
      (s.ph = .idle ∧ ∃ c, select s.cfg.config.af i = .error c ∧ exec i s = .next (s.raiseReject c)) ∨
      (s.ph = .idle ∧ ∃ sel, select s.cfg.config.af i = .ok sel ∧
        exec i s = .next (s.startRender (encodeFrame s.cfg.config sel))) := by
  rw [exec_eq_offer]; exact offer_cases s _

/-- An accepted command on an idle block (R88). -/
theorem exec_of_select_ok {i : Instr} {s : State} {m : Selection s.cfg.config.af} (hp : s.ph = .idle)
    (h : select s.cfg.config.af i = .ok m) : exec i s = .next (s.startRender (encodeFrame s.cfg.config m)) := by
  rw [exec_eq_offer, h]; exact if_neg (by simp [hp])

/-- A rejected command on an idle block (R134). -/
theorem exec_of_select_error {i : Instr} {s : State} {c : Cause} (hp : s.ph = .idle)
    (h : select s.cfg.config.af i = .error c) : exec i s = .next (s.raiseReject c) := by
  rw [exec_eq_offer, h]; exact if_neg (by simp [hp])

/-- Everything the sequencer can do on a busy block (R108). -/
theorem runSequencer_cases (s : State) :
    (s.cnt = 0 ∧ runSequencer s = .fault .sequencerStuck) ∨
      (s.cnt = 1 ∧ runSequencer s = .next (advance s)) ∨
      (1 < s.cnt ∧ runSequencer s = .next { s with cnt := s.cnt - 1 }) := by
  unfold runSequencer
  split
  · exact .inl ⟨‹_›, rfl⟩
  · exact .inr (.inl ⟨‹_›, rfl⟩)
  · rename_i n h
    exact .inr (.inr ⟨by omega, by simp [h]⟩)

theorem nextBit_of_lt {s : State} (h : s.bit.val < 15) :
    nextBit s = (State.setDataBit { s with bit := ⟨s.bit.val + 1, by omega⟩ } (s.bit.val + 1)).enter .setup
      s.cfg.config.tSetup := dif_pos h

theorem nextBit_of_last {s : State} (h : ¬ s.bit.val < 15) :
    nextBit s = (((State.driveLow { s with bit := 0 } .latch).release .latch)).enter .lhigh s.cfg.config.tLHigh :=
  dif_neg h

/-- What `advance` never touches. -/
theorem advance_keeps (s : State) :
    (advance s).fr = s.fr ∧ (advance s).fault = s.fault ∧ (advance s).cause = s.cause ∧ (advance s).cfg = s.cfg ∧
      (advance s).inputs = s.inputs ∧ (advance s).rx = s.rx ∧ (advance s).rxUnknown = s.rxUnknown ∧
      (advance s).draws = s.draws := by
  unfold advance
  split
  case h_5 => unfold nextBit; split <;> exact ⟨rfl, rfl, rfl, rfl, rfl, rfl, rfl, rfl⟩
  all_goals exact ⟨rfl, rfl, rfl, rfl, rfl, rfl, rfl, rfl⟩

@[simp] theorem edgeOf_self (b : Bool) : edgeOf b b = none := by cases b <;> rfl

@[simp] theorem shows_none (e : Edge) : shows e none = false := rfl

/-- No level changes, so the receiver keeps its contents (20_memory.md R49). -/
@[simp] theorem receiverBoundary_self (r : Receiver) (w : Wires) (d : Bool) : receiverBoundary r w w d = r := by
  simp [receiverBoundary]

/-- The receiver's parameters never change (20_memory.md R48). -/
@[simp] theorem receiverBoundary_sample (r : Receiver) (o n : Wires) (d : Bool) :
    (receiverBoundary r o n d).sample = r.sample := rfl

@[simp] theorem receiverBoundary_commit (r : Receiver) (o n : Wires) (d : Bool) :
    (receiverBoundary r o n d).commit = r.commit := rfl

end Sys2Proof.Machine
end

