-- ==== Sys2Proof/Laws/PerInstr.lean ====
section
/-! SUPPORT. Statements about every Display Command as syntax, one lemma per constructor: the two fields of its word
(30_encoding.md R60, R61). -/

namespace Sys2Proof.Laws.WordFields

/-- The word of a command holds its opcode in bits 10:8 and its operand field in bits 7:0. -/
def Statement (i : Instr) : Prop := opField (encode i) = opcode i ∧ argField (encode i) = operandField i

/-- The two fields of a word put together from them. -/
theorem fields_of_append (op : BitVec 3) (arg : Arg) :
    opField (op ++ arg : BitVec (3 + 8)) = op ∧ argField (op ++ arg : BitVec (3 + 8)) = arg :=
  ⟨BitVec.extractLsb'_append_eq_left, BitVec.extractLsb'_append_eq_right⟩

theorem blank : Statement .blank := fields_of_append _ _

theorem dashes : Statement .dashes := fields_of_append _ _

theorem err (code : Arg) : Statement (.err code) := fields_of_append _ _

theorem int (value : Arg) : Statement (.int value) := fields_of_append _ _

theorem anim (idx : Arg) : Statement (.anim idx) := fields_of_append _ _

end Sys2Proof.Laws.WordFields
end

