-- ==== Sys2Proof/Laws/Step.lean ====
section
/-! SUPPORT. What a step can do, said once (41_serial_line_driver.md R108): every invariant is derived from `step_cases` and
`driverStep_cases` without unfolding the step. -/

namespace Sys2Proof.Machine

/-- Everything a presented word can do to an idle block. -/
theorem issueWord_cases (w : CmdWord) {s : State} (hp : s.ph = .idle) :
    (∃ c, decodeCommand s.cfg.config.af w = .error c ∧ issueWord w s = .next (s.raiseReject c)) ∨
      (∃ i sel, decodeCommand s.cfg.config.af w = .ok i ∧ decode w = .ok i ∧ select s.cfg.config.af i = .ok sel ∧
        issueWord w s = .next (s.startRender (encodeFrame s.cfg.config sel))) := by
  unfold issueWord decodeCommand
  cases hd : decode w with
  | error e => exact .inl ⟨.op, rfl, rfl⟩
  | ok i =>
    rcases exec_cases i s with ⟨h, _⟩ | ⟨_, c, hc, he⟩ | ⟨_, sel, hs, he⟩
    · exact absurd hp h
    · exact .inl ⟨c, by simp [hc], he⟩
    · exact .inr ⟨i, sel, by simp [hs], rfl, hs, he⟩

/-- The cases of `Step(S, in)`, in the spec's order (R108). -/
theorem driverStep_cases (p : PortInput) (s : State) :
    (p.rst = true ∧ driverStep p s = .next (resetDriver s)) ∨
      (p.rst = false ∧ s.ph = .idle ∧ p.cmdValid = false ∧ driverStep p s = .next s) ∨
      (p.rst = false ∧ s.ph = .idle ∧ p.cmdValid = true ∧ driverStep p s = issueWord p.cmd s) ∨
      (p.rst = false ∧ s.ph ≠ .idle ∧ driverStep p s = runSequencer s) := by
  unfold driverStep
  cases hr : p.rst
  · by_cases hp : s.ph = .idle
    · cases hv : p.cmdValid <;> simp [hp]
    · simp [hp]
  · simp

/-- A step is what the driver does at the edge and what goes on around it. -/
theorem step_next_iff (s u : State) :
    step s = .next u ↔ ∃ t, edgeStep s.input s = .next t ∧ u = aroundEdge s.input.rst s t := by
  unfold step clockEdge
  cases h : edgeStep s.input s <;> simp [eq_comm]

/-- Everything the driver can do at a clock edge that answers a next state. -/
theorem edgeStep_cases {p : PortInput} {s t : State} (h : edgeStep p s = .next t) :
    (p.rst = true ∧ t = resetDriver s) ∨
      (p.rst = false ∧ t = s ∧ (p.tick = false ∨ (s.ph = .idle ∧ p.cmdValid = false))) ∨
      (p.rst = false ∧ s.ph = .idle ∧ p.cmdValid = true ∧
        ∃ c, decodeCommand s.cfg.config.af p.cmd = .error c ∧ t = s.raiseReject c) ∨
      (p.rst = false ∧ s.ph = .idle ∧ p.cmdValid = true ∧
        ∃ i sel, decodeCommand s.cfg.config.af p.cmd = .ok i ∧ select s.cfg.config.af i = .ok sel ∧
          t = s.startRender (encodeFrame s.cfg.config sel)) ∨
      (p.rst = false ∧ s.ph ≠ .idle ∧ 1 < s.cnt ∧ t = { s with cnt := s.cnt - 1 }) ∨
      (p.rst = false ∧ s.ph ≠ .idle ∧ s.cnt = 1 ∧ t = advance s) := by
  unfold edgeStep at h
  by_cases ht : p.tick = true
  · simp only [ht, if_true, ite_self] at h
    rcases driverStep_cases p s with ⟨hr, he⟩ | ⟨hr, hp, hv, he⟩ | ⟨hr, hp, hv, he⟩ | ⟨hr, hp, he⟩ <;> rw [he] at h
    · exact .inl ⟨hr, by simpa using h.symm⟩
    · exact .inr (.inl ⟨hr, by simpa using h.symm, .inr ⟨hp, hv⟩⟩)
    · rcases issueWord_cases p.cmd hp with ⟨c, hd, hi⟩ | ⟨i, sel, hd, _, hs, hi⟩ <;> rw [hi] at h
      · exact .inr (.inr (.inl ⟨hr, hp, hv, c, hd, by simpa using h.symm⟩))
      · exact .inr (.inr (.inr (.inl ⟨hr, hp, hv, i, sel, hd, hs, by simpa using h.symm⟩)))
    · rcases runSequencer_cases s with ⟨_, hq⟩ | ⟨hc, hq⟩ | ⟨hc, hq⟩ <;> rw [hq] at h
      · simp at h
      · exact .inr (.inr (.inr (.inr (.inr ⟨hr, hp, hc, by simpa using h.symm⟩))))
      · exact .inr (.inr (.inr (.inr (.inl ⟨hr, hp, hc, by simpa using h.symm⟩))))
  · simp only [ht] at h
    cases hr : p.rst
    · simp only [hr] at h
      exact .inr (.inl ⟨rfl, by simpa using h.symm, .inl (by simpa using ht)⟩)
    · simp only [hr, if_true, driverStep] at h
      exact .inl ⟨rfl, by simpa using h.symm⟩

/-- Everything a step that answers a next state can have done (R108). -/
theorem step_cases {s u : State} (h : step s = .next u) :
    ∃ t, u = aroundEdge s.input.rst s t ∧
      ((s.input.rst = true ∧ t = resetDriver s) ∨
        (s.input.rst = false ∧ t = s ∧ (s.input.tick = false ∨ (s.ph = .idle ∧ s.input.cmdValid = false))) ∨
        (s.input.rst = false ∧ s.ph = .idle ∧ s.input.cmdValid = true ∧
          ∃ c, decodeCommand s.cfg.config.af s.input.cmd = .error c ∧ t = s.raiseReject c) ∨
        (s.input.rst = false ∧ s.ph = .idle ∧ s.input.cmdValid = true ∧
          ∃ i sel, decodeCommand s.cfg.config.af s.input.cmd = .ok i ∧ select s.cfg.config.af i = .ok sel ∧
            t = s.startRender (encodeFrame s.cfg.config sel)) ∨
        (s.input.rst = false ∧ s.ph ≠ .idle ∧ 1 < s.cnt ∧ t = { s with cnt := s.cnt - 1 }) ∨
        (s.input.rst = false ∧ s.ph ≠ .idle ∧ s.cnt = 1 ∧ t = advance s)) := by
  obtain ⟨t, ht, hu⟩ := (step_next_iff s u).1 h
  exact ⟨t, hu, edgeStep_cases ht⟩

end Sys2Proof.Machine
end

