-- ==== Sys2Proof/Laws/Run.lean ====
section
/-! SUPPORT. Runs of several steps: how they compose, and how the undisturbed inputs of a run (41_serial_line_driver.md R109)
pass from one state to the next. -/

namespace Sys2Proof.Machine

open Safety

theorem run_zero (s : State) : Host.Core.run core 0 s = .next s := rfl

/-- A run begins with a step. -/
theorem run_succ {s t : State} (k : Nat) (h : step s = .next t) : Host.Core.run core (k + 1) s = Host.Core.run core k t := by
  have hc : core.step s = .next t := h
  simp only [Host.Core.run, hc]

/-- A run of `a + b` steps is a run of `b` steps after one of `a`. -/
theorem run_add {a : Nat} (b : Nat) {s t : State} (h : Host.Core.run core a s = .next t) :
    Host.Core.run core (a + b) s = Host.Core.run core b t := by
  induction a generalizing s with
  | zero => cases h; rw [Nat.zero_add]
  | succ a ih =>
    cases hs : step s with
    | next u => rw [run_succ a hs] at h; rw [Nat.succ_add, run_succ (a + b) hs]; exact ih h
    | fault r =>
      have hc : core.step s = .fault r := hs
      have : Host.Core.run core (a + 1) s = .fault r := by simp only [Host.Core.run, hc]
      rw [this] at h; cases h
    | refused r =>
      have hc : core.step s = .refused r := hs
      have : Host.Core.run core (a + 1) s = .refused r := by simp only [Host.Core.run, hc]
      rw [this] at h; cases h

/-- A run ends with a step. -/
theorem run_snoc {k : Nat} {s t u : State} (h : Host.Core.run core k s = .next t) (hs : step t = .next u) :
    Host.Core.run core (k + 1) s = .next u := by
  rw [run_add 1 h, run_succ 0 hs, run_zero]

/-- The coming input of an undisturbed run is a tick without reset. -/
theorem UndisturbedFor_head {s : State} {n : Nat} (h : UndisturbedFor s (n + 1)) :
    s.input.rst = false ∧ s.input.tick = true := by
  obtain ⟨hl, hp⟩ := h
  cases hi : s.inputs with
  | nil => simp [hi] at hl
  | cons p ps => simpa [State.input, hi] using hp p (by simp [hi])

/-- One step of an undisturbed run leaves an undisturbed run. -/
theorem UndisturbedFor_tail {s t : State} {n : Nat} (h : UndisturbedFor s (n + 1)) (ht : t.inputs = s.inputs.tail) :
    UndisturbedFor t n := by
  obtain ⟨hl, hp⟩ := h
  cases hi : s.inputs with
  | nil => simp [hi] at hl
  | cons p ps =>
    rw [hi] at hl hp ht
    refine ⟨by simpa [ht] using hl, fun q hq => hp q ?_⟩
    rw [ht] at hq
    exact List.mem_cons_of_mem p hq

/-- Every step brings up HOST's next input. -/
theorem step_inputs {s t : State} (h : step s = .next t) : t.inputs = s.inputs.tail := by
  obtain ⟨u, rfl, _⟩ := step_cases h
  rfl

/-- What a tick of a busy block does: it counts down or advances, whatever HOST presents (R108, R112). -/
theorem step_busy {s : State} (hr : s.input.rst = false) (ht : s.input.tick = true) (hp : s.ph ≠ .idle) :
    (1 < s.cnt → step s = .next (aroundEdge false s { s with cnt := s.cnt - 1 })) ∧
      (s.cnt = 1 → step s = .next (aroundEdge false s (advance s))) := by
  have he : edgeStep s.input s = runSequencer s := by simp [edgeStep, driverStep, hr, ht, hp]
  constructor
  · intro hc
    refine (step_next_iff _ _).2 ⟨_, ?_, by rw [hr]⟩
    rw [he]
    rcases runSequencer_cases s with ⟨h0, _⟩ | ⟨h0, _⟩ | ⟨_, h0⟩
    · omega
    · omega
    · exact h0
  · intro hc
    refine (step_next_iff _ _).2 ⟨_, ?_, by rw [hr]⟩
    rw [he]
    rcases runSequencer_cases s with ⟨h0, _⟩ | ⟨_, h0⟩ | ⟨h0, _⟩
    · omega
    · exact h0
    · omega

end Sys2Proof.Machine
end

