-- ==== Sys2Proof/Tests/Slice0.lean ====
section
/-! SUPPORT. Tests: expected results from the spec's tables (95_test_vectors.md, 30_encoding.md R60 to R70), ill-formed terms for
each check, and for each obligation with hypotheses a state that meets them (`test_hyps_…`). `REF` is the spec's own fixture
(95_test_vectors.md part 0), not the hardware. -/

namespace Sys2Proof.Tests

open Machine Safety

/-! ## Fixtures -/

/-- `REF.DT1` (95_test_vectors.md part 0). -/
def refDT1 : DigitTable .six :=
  #v[0x7E, 0x30, 0x6D, 0x79, 0x33, 0x5B, 0x5F, 0x70, 0x7F, 0x7B, 0x00, 0x01, 0x40, 0x20, 0x10, 0x08, 0x04, 0x02]

/-- `REF.DT2`. -/
def refDT2 : DigitTable .six :=
  #v[0x3F, 0x06, 0x5B, 0x4F, 0x66, 0x6D, 0x7D, 0x07, 0x7F, 0x6F, 0x00, 0x40, 0x01, 0x02, 0x04, 0x08, 0x10, 0x20]

/-- The record `REF`, default timing, `POL = 0`. -/
def refRecord : Config where
  af := .six
  dt1 := refDT1
  dt2 := refDT2

/-- `REF` as the machine holds it. -/
def ref : LegalConfig := ⟨refRecord, by decide⟩

/-- `REF` with the shortest legal render, `D = 51`. -/
def fast : LegalConfig :=
  ⟨{ refRecord with tHalf := 1, tSetup := 1, tLSettle := 1, tLHigh := 1, tLFinal := 1 }, by decide⟩

/-- An idle block under `REF` with the given inputs to come. -/
def idleWith (ps : List PortInput) : State :=
  { State.reset with cfg := ref, inputs := ps, rx := ⟨.fall, .rise, 0xFFFF#16, 0#16⟩ }

/-- An idle block under `REF`. -/
def idle : State := idleWith []

/-- A render of frame 0xDB99 (`INT 24`) at the given place: LATCH low, DATA holding bit 7, CLOCK low. -/
def midRender (p : Phase) (k : Fin 16) (n : Nat) (ps : List PortInput) : State :=
  { idleWith ps with
    ph := p, bit := k, cnt := n, fr := 0xDB99#16, clockLine := .low, dataLine := .z, latchLine := .low }

/-- `rst` at an edge without `tick`. -/
def resetEdge : PortInput := { rst := true, tick := false, cmdValid := true, cmd := 0x318#11 }

/-- The state a step answers, or the state before it. -/
def after (s : State) : State :=
  match step s with
  | .next t => t
  | .fault _ => s
  | .refused _ => s

/-- The frame captured by a command on an idle block under `REF`. -/
def frameOf (i : Instr) : Option Frame :=
  match exec i idle with
  | .next t => if t.ph = .lsettle then some t.fr else none
  | .fault _ => none
  | .refused _ => none

/-- The cause a command leaves on an idle block under `REF`. -/
def causeOf (i : Instr) : Option (BitVec 3) :=
  match exec i idle with
  | .next t => if t.ph = .idle ∧ t.fault = true then some t.cause else none
  | .fault _ => none
  | .refused _ => none

/-! ## Decoding and encoding: words written from R60, 95_test_vectors.md 2.1 -/

theorem test_decode_blank : decode 0b000_00000000#11 = .ok .blank ∧ decode 0b000_11111111#11 = .ok .blank := by decide

theorem test_decode_dashes : decode 0b001_00000000#11 = .ok .dashes ∧ decode 0b001_10100101#11 = .ok .dashes := by decide

theorem test_decode_err : decode 0b010_00000111#11 = .ok (.err 7#8) ∧ decode 0b010_01100011#11 = .ok (.err 99#8) := by decide

theorem test_decode_int : decode 0b011_00011000#11 = .ok (.int 24#8) ∧ decode 0b011_11111001#11 = .ok (.int 0xF9#8) := by
  decide

theorem test_decode_anim : decode 0b100_00000000#11 = .ok (.anim 0#8) ∧ decode 0b100_00001011#11 = .ok (.anim 11#8) := by
  decide

theorem test_decode_reserved :
    decode 0b101_00000000#11 = .error (.reservedOp 5#3) ∧ decode 0b110_10101011#11 = .error (.reservedOp 6#3) ∧
      decode 0b111_11111111#11 = .error (.reservedOp 7#3) := by decide

theorem test_encode_words :
    encode .blank = 0x000#11 ∧ encode .dashes = 0x100#11 ∧ encode (.err 42#8) = 0x22A#11 ∧
      encode (.int (BitVec.ofInt 8 (-99))) = 0x39D#11 ∧ encode (.anim 5#8) = 0x405#11 := by decide

/-- The two `AF` rows of 2.1: ANIM 6. -/
theorem test_anim_limit :
    decodeCommand .six 0x406#11 = .error .anim ∧ decodeCommand .twelve 0x406#11 = .ok (.anim 6#8) ∧
      decodeCommand .twelve 0x40C#11 = .error .anim := by decide

/-- The INT boundary rows of 2.1. -/
theorem test_int_limit :
    decodeCommand .six 0x364#11 = .error .range ∧ decodeCommand .six 0x380#11 = .error .range ∧
      decodeCommand .six 0x39C#11 = .error .range ∧ decodeCommand .six 0x39D#11 = .ok (.int 0x9D#8) := by decide

/-! ## Well-formedness: an ill-formed term for each check -/

theorem test_wellFormed_refuses_err : WellFormed .six (.err 99#8) = true ∧ WellFormed .six (.err 100#8) = false := by decide

theorem test_wellFormed_refuses_int :
    WellFormed .six (.int 99#8) = true ∧ WellFormed .six (.int 100#8) = false ∧
      WellFormed .six (.int 0x9D#8) = true ∧ WellFormed .six (.int 0x9C#8) = false := by decide

theorem test_wellFormed_refuses_anim :
    WellFormed .six (.anim 5#8) = true ∧ WellFormed .six (.anim 6#8) = false ∧
      WellFormed .twelve (.anim 11#8) = true ∧ WellFormed .twelve (.anim 12#8) = false := by decide

theorem test_config_accepts_ref : (Config.check refRecord).isSome = true := by decide

/-- A timing value of 0 (00_scope.md R9). -/
theorem test_config_refuses_zero_timing :
    Config.check { refRecord with tHalf := 0 } = none ∧ Config.check { refRecord with tSetup := 0 } = none ∧
      Config.check { refRecord with tLSettle := 0 } = none ∧ Config.check { refRecord with tLHigh := 0 } = none ∧
      Config.check { refRecord with tLFinal := 0 } = none := by decide

/-- Two equal numerals (R5). -/
theorem test_config_refuses_equal_numerals :
    Config.check { refRecord with dt1 := refDT1.set 9 0x7F#7 } = none ∧
      Config.check { refRecord with dt2 := refDT2.set 0 0x06#7 } = none := by decide

/-- A blank entry that is not blank (R5). -/
theorem test_config_refuses_lit_blank :
    Config.check { refRecord with dt1 := refDT1.set 10 0x01#7 } = none ∧
      Config.check { refRecord with dt2 := refDT2.set 10 0x40#7 } = none := by decide

/-! ## The commands: frames of 95_test_vectors.md 2.2 under `REF` -/

theorem test_blank_frame : frameOf .blank = some 0x0000#16 := by decide

theorem test_dashes_frame : frameOf .dashes = some 0x0300#16 := by decide

theorem test_err_frames : frameOf (.err 7#8) = some 0xFC1C#16 ∧ frameOf (.err 99#8) = some 0xF7BC#16 := by decide

theorem test_err_rejects : causeOf (.err 100#8) = some 3#3 := by decide

theorem test_int_frames :
    frameOf (.int 24#8) = some 0xDB99#16 ∧ frameOf (.int 0xF9#8) = some 0x001F#16 ∧
      frameOf (.int 0#8) = some 0x00FD#16 ∧ frameOf (.int 0x9D#8) = some 0xF7BF#16 := by decide

theorem test_int_rejects : causeOf (.int 0x64#8) = some 1#3 ∧ causeOf (.int 0x80#8) = some 1#3 := by decide

theorem test_anim_frames : frameOf (.anim 0#8) = some 0x8004#16 ∧ frameOf (.anim 5#8) = some 0x0480#16 := by decide

theorem test_anim_rejects : causeOf (.anim 6#8) = some 4#3 := by decide

/-! ## Steps -/

/-- The first instruction after reset, whatever the configuration: the step takes each row's word. -/
theorem test_first_step_takes_each_row :
    (after (State.reset.withFetchWord 16 0x000)).ph = .lsettle ∧ (after (State.reset.withFetchWord 16 0x100)).ph = .lsettle ∧
      (after (State.reset.withFetchWord 16 0x200)).ph = .lsettle ∧
      (after (State.reset.withFetchWord 16 0x300)).ph = .lsettle ∧
      (after (State.reset.withFetchWord 16 0x400)).ph = .lsettle := by decide

/-- 41_serial_line_driver.md R108, ACCEPT: LATCH low, the others released, `cnt = T_LSETTLE`. -/
theorem test_accept_lines :
    (after (idleWith [.present 0x318#11])).latchLine = .low ∧ (after (idleWith [.present 0x318#11])).clockLine = .z ∧
      (after (idleWith [.present 0x318#11])).dataLine = .z ∧ (after (idleWith [.present 0x318#11])).cnt = 4 := by decide

/-- Program P2, tick 388: a second reject leaves the first cause. -/
theorem test_second_reject_keeps_cause :
    (after { idleWith [.present 0x500#11] with fault := true, cause := 1#3 }).cause = 1#3 := by decide

/-- A reserved `OP` on an idle block: cause 2, no line changes. -/
theorem test_reserved_op_rejects :
    (after (idleWith [.present 0x6AB#11])).cause = 2#3 ∧ (after (idleWith [.present 0x6AB#11])).latchLine = .z := by decide

/-- 95_test_vectors.md 2.4: the last tick of a phase and its successor. -/
theorem test_sequencer_places :
    (after (midRender .lsettle 0 1 [])).ph = .setup ∧ (after (midRender .setup 7 1 [])).ph = .chigh ∧
      (after (midRender .chigh 7 1 [])).ph = .clow ∧ (after (midRender .clow 7 1 [])).ph = .setup ∧
      (after (midRender .clow 15 1 [])).ph = .lhigh ∧ (after (midRender .lhigh 0 1 [])).ph = .lfinal ∧
      (after (midRender .lfinal 0 1 [])).ph = .idle := by decide

/-- 2.3, 2.4: bit 2 of frame 0xDB99 is 0 and drives DATA low; the bit index advances. -/
theorem test_next_bit_sets_data :
    (after (midRender .clow 1 1 [])).dataLine = .low ∧ (after (midRender .clow 1 1 [])).bit = 2 := by decide

/-- A hold counts down and changes nothing else. -/
theorem test_count : (after (midRender .chigh 7 3 [])).cnt = 2 ∧ (after (midRender .chigh 7 3 [])).ph = .chigh := by decide

/-- A word offered while busy is not transferred (60_exceptions.md R141). -/
theorem test_busy_ignores_word : (after (midRender .chigh 7 3 [.present 0x500#11])).fault = false := by decide

/-- 2.6, third row: reset during a render releases the lines, and the release of LATCH commits the partial word. -/
theorem test_reset_mid_render :
    (after (midRender .chigh 7 3 [resetEdge])).ph = .idle ∧ (after (midRender .chigh 7 3 [resetEdge])).latchLine = .z ∧
      (after (midRender .chigh 7 3 [resetEdge])).rx.out = 0xFFFF#16 ∧
      (after (midRender .chigh 7 3 [resetEdge])).rxUnknown = true := by decide

/-- An edge with neither `rst` nor `tick` changes nothing of BPDC (10_state.md R31). -/
theorem test_edge_without_tick :
    (after (midRender .chigh 7 1 [{ PortInput.nothing with tick := false }])).ph = .chigh := by decide

/-- 20_memory.md R49: a falling CLOCK shifts the level of DATA in. -/
theorem test_receiver_shifts :
    (receiverBoundary ⟨.fall, .rise, 0x8001#16, 0#16⟩ ⟨true, false, false⟩ ⟨false, false, false⟩ true).sr = 0x0002#16 := by
  decide

/-- R49: a rising LATCH commits the SR from before the boundary. -/
theorem test_receiver_commits :
    (receiverBoundary ⟨.rise, .rise, 0xDB99#16, 0#16⟩ ⟨false, true, false⟩ ⟨true, true, true⟩ true).out = 0xDB99#16 := by
  decide

/-! ## The assembler: lines of 95_test_vectors.md part 3 -/

theorem test_assemble_int : assembleLine .six "        INT -7          ; 0x3F9".toList = some (.word 0x3F9#11) := by decide

theorem test_assemble_word : assembleLine .six ".word 0x364     ; INT 100, illegal".toList = some (.word 0x364#11) := by
  decide

theorem test_assemble_refuses :
    assembleLine .six "ANIM 6".toList = none ∧ assembleLine .six "INT -100".toList = none ∧
      assembleLine .six "ERR 100".toList = none := by decide

theorem test_assemble_comment : assembleLine .six "; wait ready".toList = some .nothing := by decide

/-! ## States that meet the hypotheses of the obligations -/

theorem test_hyps_DecodeEncodeRoundTrip :
    decode 0x1A5#11 = .ok .dashes ∧ decode 0x39D#11 = .ok (.int 0x9D#8) := by decide

/-- One word for each clause, at the ends of its range. -/
theorem test_hyps_DecodeCommandMatchesTable :
    0x0FF#11 &&& 0x700#11 = 0x000#11 ∧ 0x1FF#11 &&& 0x700#11 = 0x100#11 ∧ 0x264#11 &&& 0x700#11 = 0x200#11 ∧
      0x380#11 &&& 0x700#11 = 0x300#11 ∧ 0x406#11 &&& 0x700#11 = 0x400#11 ∧ 0x500#11 &&& 0x700#11 = 0x500#11 ∧
      0x6AB#11 &&& 0x700#11 = 0x600#11 ∧ 0x7FF#11 &&& 0x700#11 = 0x700#11 := by decide

theorem test_hyps_IllegalWordsAreRejected :
    idle.ph = .idle ∧ decodeCommand idle.cfg.config.af 0x264#11 = .error .code := by decide

theorem test_hyps_AssembledCommandsAreLegal :
    operandCommand .six "ERR".toList "99".toList = some (.err 99#8) ∧
      operandCommand .six "INT".toList "-99".toList = some (.int 0x9D#8) ∧
      operandCommand .six "ANIM".toList "5".toList = some (.anim 5#8) := by decide

theorem test_hyps_MultiplexerArms :
    (99#8).toNat ≤ 99 ∧ -99 ≤ (0x9D#8).toInt ∧ (0x9D#8).toInt ≤ 99 ∧ (5#8).toNat < AnimCount.six.count := by decide

theorem test_hyps_BlankCompletes : idle.ph = .idle := by decide

theorem test_hyps_DashesCompletes : idle.ph = .idle := by decide

theorem test_hyps_ErrCompletes : (99#8).toNat ≤ 99 ∧ idle.ph = .idle := by decide

theorem test_hyps_IntCompletes :
    -99 ≤ (0x9D#8).toInt ∧ (0x9D#8).toInt ≤ 99 ∧ -99 ≤ (0x63#8).toInt ∧ (0x63#8).toInt ≤ 99 ∧ idle.ph = .idle := by decide

theorem test_hyps_AnimCompletes : (5#8).toNat < idle.cfg.config.af.count ∧ idle.ph = .idle := by decide

theorem test_hyps_AcceptedCommandDoesThreeThings :
    idle.ph = .idle ∧ (∃ m, select idle.cfg.config.af .blank = .ok m) ∧
      select idle.cfg.config.af (.err 100#8) = .error .code := ⟨by decide, ⟨_, rfl⟩, by decide⟩

theorem test_hyps_CommandFrame : (∃ t, exec .blank idle = .next t) ∧ ∃ t, exec (.int 0x64#8) idle = .next t :=
  ⟨⟨_, rfl⟩, ⟨_, rfl⟩⟩

theorem test_hyps_EncoderIsPure :
    ∃ t t', idle.cfg = { idle with fault := true, cause := 1#3, fr := 7#16 }.cfg ∧ idle.ph = .idle ∧
      exec .blank idle = .next t ∧ exec .blank { idle with fault := true, cause := 1#3, fr := 7#16 } = .next t' ∧
      t.ph = .lsettle := ⟨_, _, rfl, rfl, rfl, rfl, rfl⟩

theorem test_hyps_ErrCodesAreRecovered :
    ∃ m n, select ref.config.af (.err 7#8) = .ok m ∧ select ref.config.af (.err 7#8) = .ok n ∧
      encodeFrame ref.config m = encodeFrame ref.config n := ⟨_, _, rfl, rfl, rfl⟩

theorem test_hyps_IntValuesAreRecovered :
    (∃ m n, select ref.config.af (.int 0x9D#8) = .ok m ∧ select ref.config.af (.int 0x9D#8) = .ok n ∧
      encodeFrame ref.config m = encodeFrame ref.config n) ∧
      (0x9D#8).toInt.natAbs / 10 ≠ 0 ∧ ∀ d : Fin 10, d ≠ 0 → ref.config.dt1[d.val]'(by omega) ≠ 0#7 :=
  ⟨⟨_, _, rfl, rfl, rfl⟩, by decide, by decide⟩

theorem test_hyps_RejectCausesAreComplete : opField 0x0FF#11 = 0#3 ∧ opField 0x1FF#11 = 1#3 := by decide

theorem test_hyps_RejectTakesOneTick :
    idle.ph = .idle ∧ decodeCommand idle.cfg.config.af 0x364#11 = .error .range ∧ idle.fault = false ∧
      { idle with fault := true, cause := 4#3 }.fault = true ∧ ∃ t, issueWord 0x364#11 idle = .next t :=
  ⟨rfl, by decide, rfl, rfl, ⟨_, rfl⟩⟩

theorem test_hyps_IllegalOperandsReject :
    idle.ph = .idle ∧ idle.fault = false ∧ 99 < (100#8).toNat ∧ (0x9C#8).toInt < -99 ∧ 99 < (0x64#8).toInt ∧
      idle.cfg.config.af.count ≤ (6#8).toNat := by decide

theorem test_hyps_BusyBlockLooksAtResetOnly :
    (midRender .chigh 7 1 []).ph ≠ .idle ∧ (PortInput.present 0x500#11).rst = PortInput.nothing.rst ∧
      (PortInput.present 0x500#11).tick = PortInput.nothing.tick := by decide

theorem test_hyps_RejectRecordIsSticky :
    ∃ t, step { idleWith [.present 0x500#11] with fault := true, cause := 1#3 } = .next t ∧
      { idleWith [.present 0x500#11] with fault := true, cause := 1#3 }.input.rst = false := ⟨_, rfl, rfl⟩

theorem test_hyps_RejectRecordInfluencesNothing :
    (∃ t, step (idleWith [.present 0x318#11]) = .next t) ∧
      step (midRender .chigh 7 0 []) = .fault .sequencerStuck := ⟨⟨_, rfl⟩, rfl⟩

theorem test_hyps_RejectRecordInvariantKept :
    RejectRecordOk (idleWith [.present 0x500#11]) ∧ ∃ t, step (idleWith [.present 0x500#11]) = .next t :=
  ⟨.inl ⟨rfl, rfl⟩, ⟨_, rfl⟩⟩

theorem test_hyps_DutifulHostIsNeverRejected :
    HostDuty (idleWith [.present 0x363#11]) ∧ ∃ t, step (idleWith [.present 0x363#11]) = .next t :=
  ⟨⟨fun h => absurd h (by decide), fun _ _ => ⟨.int 0x63#8, by decide⟩⟩, ⟨_, rfl⟩⟩

/-- One input and state for each clause of the tick rule. -/
theorem test_hyps_DriverStepFollowsTheTickRule :
    resetEdge.rst = true ∧ PortInput.nothing.rst = false ∧ PortInput.nothing.cmdValid = false ∧ idle.ph = .idle ∧
      (PortInput.present 0x364#11).rst = false ∧ (PortInput.present 0x364#11).cmdValid = true ∧
      decodeCommand idle.cfg.config.af 0x364#11 = .error .range ∧
      decodeCommand idle.cfg.config.af 0x363#11 = .ok (.int 0x63#8) ∧
      (midRender .lfinal 0 2 []).ph ≠ .idle ∧ 1 < (midRender .lfinal 0 2 []).cnt ∧
      (midRender .lsettle 0 1 []).cnt = 1 ∧ (midRender .setup 15 1 []).cnt = 1 ∧ (midRender .chigh 0 1 []).cnt = 1 ∧
      (midRender .clow 14 1 []).bit.val < 15 ∧ (midRender .clow 15 1 []).bit.val = 15 ∧
      (midRender .lhigh 0 1 []).cnt = 1 ∧ (midRender .lfinal 0 1 []).cnt = 1 := by decide

theorem test_hyps_StepIsTheDriverAtAnEdge : ∃ t, step (idleWith [resetEdge]) = .next t := ⟨_, rfl⟩

theorem test_hyps_StepRunsDecodedInstruction :
    (idleWith [.present 0x3FF#11]).ph = .idle ∧ (idleWith [.present 0x3FF#11]).input.rst = false ∧
      (idleWith [.present 0x3FF#11]).input.tick = true ∧ (idleWith [.present 0x3FF#11]).input.cmdValid = true ∧
      decode (idleWith [.present 0x3FF#11]).input.cmd = .ok (.int 0xFF#8) := by decide

theorem test_hyps_ResetAtAnyEdge :
    (midRender .clow 15 1 [resetEdge]).input.rst = true ∧ (midRender .clow 15 1 [resetEdge]).input.tick = false := by decide

/-- A state of the row `SETUP` of R34 with bit 0 of frame 0xDB99. -/
def setupBit0 : State :=
  { midRender .setup 0 1 [] with clockLine := .z, dataLine := .z }

theorem test_hyps_DriverInvariantKept : DriverInv setupBit0 ∧ ∃ t, step setupBit0 = .next t :=
  ⟨⟨rfl, rfl, by unfold DataIs; decide, by decide, by decide⟩, ⟨_, rfl⟩⟩

theorem test_hyps_InvariantStatesNeverStop : DriverInv setupBit0 := test_hyps_DriverInvariantKept.1

/-- The last tick of a render of frame 0xDB99. -/
def lastTick : State := midRender .lfinal 0 1 []

theorem test_hyps_RenderEndsInTheIdleState :
    DriverInv lastTick ∧ ∃ t, step lastTick = .next t ∧ lastTick.busy = true ∧ t.busy = false :=
  ⟨⟨rfl, rfl, by unfold DataIs; decide, by unfold CntIn; decide, rfl⟩, ⟨_, rfl, by decide, by decide⟩⟩

theorem test_hyps_FrameConstantDuringRender :
    ∃ t, step (idleWith [.present 0x318#11]) = .next t ∧ t.fr ≠ (idleWith [.present 0x318#11]).fr := ⟨_, rfl, by decide⟩

theorem test_hyps_ConfigNeverChanges : ∃ t, step (idleWith [resetEdge]) = .next t := ⟨_, rfl⟩

theorem test_hyps_OneLineChangesAtABoundary :
    ∃ t, step (midRender .clow 1 1 []) = .next t ∧ (midRender .clow 1 1 []).input.rst = false ∧
      ¬((midRender .clow 1 1 []).ph = .lfinal ∧ t.ph = .idle) := ⟨_, rfl, rfl, by decide⟩

theorem test_hyps_PolarityTouchesDataOnly : ∃ t, step (midRender .clow 1 1 []) = .next t := ⟨_, rfl⟩

/-- HOST presents `INT 24`, then something else at every tick of the render. -/
def busyHost : State := { idleWith (.present 0x318#11 :: List.replicate 60 (.present 0x500#11)) with cfg := fast }

theorem acceptsFrame_busyHost : AcceptsFrame busyHost 0xDB99#16 :=
  ⟨⟨rfl, rfl, rfl, rfl, rfl, rfl⟩, rfl, rfl, rfl, .int 24#8, _, by decide, rfl, by decide⟩

theorem undisturbedFor_busyHost : UndisturbedFor busyHost (1 + renderTicks busyHost.cfg.config) := by
  refine ⟨by decide, fun p hp => ?_⟩
  have : p ∈ busyHost.inputs := List.mem_of_mem_take hp
  rcases List.mem_cons.1 this with rfl | h
  · decide
  · rw [(List.mem_replicate.1 h).2]; decide

theorem test_hyps_RenderFollowsTheTimeline :
    AcceptsFrame busyHost 0xDB99#16 ∧ UndisturbedFor busyHost (1 + renderTicks busyHost.cfg.config) ∧
      refRecord.tHalf = 5 ∧ refRecord.tSetup = 1 ∧ refRecord.tLSettle = 4 ∧ refRecord.tLHigh = 8 ∧ refRecord.tLFinal = 4 :=
  ⟨acceptsFrame_busyHost, undisturbedFor_busyHost, rfl, rfl, rfl, rfl, rfl⟩

theorem test_hyps_RenderProducesTheTrace :
    AcceptsFrame busyHost 0xDB99#16 ∧ UndisturbedFor busyHost (1 + renderTicks busyHost.cfg.config) :=
  ⟨acceptsFrame_busyHost, undisturbedFor_busyHost⟩

theorem test_hyps_BusyBlockBecomesReady :
    DriverInv { setupBit0 with inputs := List.replicate 192 (.present 0x500#11) } ∧
      UndisturbedFor { setupBit0 with inputs := List.replicate 192 (.present 0x500#11) } (renderTicks ref.config) := by
  refine ⟨test_hyps_DriverInvariantKept.1, (by decide : renderTicks ref.config ≤ 192).trans_eq List.length_replicate.symm, fun p hp => ?_⟩
  rw [(List.mem_replicate.1 (List.mem_of_mem_take hp)).2]
  decide

theorem test_hyps_ReceiverShiftsAndCommits :
    (∃ t, step (midRender .lfinal 0 1 []) = .next t ∧
      edgeOf (midRender .lfinal 0 1 []).latchLine.level t.latchLine.level = some (midRender .lfinal 0 1 []).rx.commit ∧
      edgeOf (midRender .lfinal 0 1 []).clockLine.level t.clockLine.level ≠ some (midRender .lfinal 0 1 []).rx.sample) ∧
    ∃ t, step { midRender .chigh 7 1 [] with clockLine := .z } = .next t ∧
      edgeOf true t.clockLine.level = some Edge.fall ∧ t.dataLine = .z ∧ edgeOf false t.latchLine.level ≠ some Edge.rise :=
  ⟨⟨_, rfl, by decide, by decide⟩, ⟨_, rfl, by decide, by decide, by decide⟩⟩

theorem test_hyps_FallingEdgeReceiverShowsTheFrame :
    AcceptsFrame busyHost 0xDB99#16 ∧ UndisturbedFor busyHost (1 + renderTicks busyHost.cfg.config) ∧
      busyHost.rx.sample = .fall := ⟨acceptsFrame_busyHost, undisturbedFor_busyHost, rfl⟩

theorem test_hyps_RisingEdgeReceiverIsMisaligned :
    AcceptsFrame { busyHost with rx := ⟨.rise, .rise, 1#16, 0#16⟩ } 0xDB99#16 ∧
      UndisturbedFor { busyHost with rx := ⟨.rise, .rise, 1#16, 0#16⟩ } (1 + renderTicks busyHost.cfg.config) ∧
      { busyHost with rx := ⟨.rise, .rise, 1#16, 0#16⟩ }.rx.sample = .rise :=
  ⟨acceptsFrame_busyHost, undisturbedFor_busyHost, rfl⟩

theorem test_hyps_BrokenRenderLeavesDisplayUnknown :
    (∃ t, step (midRender .chigh 7 3 [resetEdge]) = .next t ∧ (midRender .chigh 7 3 [resetEdge]).input.rst = true ∧
      (midRender .chigh 7 3 [resetEdge]).busy = true ∧ (midRender .chigh 7 3 [resetEdge]).rxUnknown = true ∧
      ¬((midRender .chigh 7 3 [resetEdge]).input.rst = false ∧ (midRender .chigh 7 3 [resetEdge]).ph = .lfinal ∧
        t.ph = .idle) ∧ t.rxUnknown = true) ∧
    ∃ t, step lastTick = .next t ∧ t.rxUnknown = false :=
  ⟨⟨_, rfl, rfl, by decide, rfl, by decide, by decide⟩, ⟨_, rfl, by decide⟩⟩

end Sys2Proof.Tests
end

section
/-! PROOFS. Family 10_state.md: the invariant table of the driver (R34), the reject record (R27), what surrounds the driver at
a clock edge (R31), the outputs (R28). -/

namespace Sys2Proof

/-- The timing values of a legal `Config` are at least 1 (00_scope.md R9). -/
theorem LegalConfig.one_le_holds (c : LegalConfig) :
    1 ≤ c.config.tHalf ∧ 1 ≤ c.config.tSetup ∧ 1 ≤ c.config.tLSettle ∧ 1 ≤ c.config.tLHigh ∧ 1 ≤ c.config.tLFinal :=
  c.legal.2.2

end Sys2Proof

namespace Sys2Proof.Machine

open Safety

/-! ## What a clock edge runs -/

/-- The driver runs at an edge with `rst` or `tick`, and at no other (10_state.md R31). -/
theorem edgeStep_eq (p : PortInput) (s : State) :
    edgeStep p s = if p.rst = true ∨ p.tick = true then driverStep p s else .next s := by
  unfold edgeStep
  by_cases hr : p.rst = true <;> simp [hr]

theorem issueWord_of_decode_ok {w : CmdWord} {i : Instr} (s : State) (h : decode w = .ok i) :
    issueWord w s = exec i s := by
  simp [issueWord, h]

/-- No command stops the machine. -/
theorem exec_answers_next (i : Instr) (s : State) : ∃ t, exec i s = .next t := by
  rcases exec_cases i s with ⟨_, h⟩ | ⟨_, _, _, h⟩ | ⟨_, _, _, h⟩ <;> exact ⟨_, h⟩

/-- A busy block transfers no word (60_exceptions.md R141). -/
theorem exec_of_busy (i : Instr) {s : State} (hp : s.ph ≠ .idle) : exec i s = .next s := by
  rw [exec_eq_offer]
  exact if_pos (by simp [hp])

/-- The driver stops in a busy state with `cnt = 0` only (41_serial_line_driver.md R108). -/
theorem driverStep_answers_next (p : PortInput) {s : State} (h : s.ph ≠ .idle → 1 ≤ s.cnt) :
    ∃ t, driverStep p s = .next t := by
  rcases driverStep_cases p s with ⟨_, he⟩ | ⟨_, _, _, he⟩ | ⟨_, hp, _, he⟩ | ⟨_, hp, he⟩
  · exact ⟨_, he⟩
  · exact ⟨_, he⟩
  · rcases issueWord_cases p.cmd hp with ⟨_, _, hi⟩ | ⟨_, _, _, _, _, hi⟩ <;> exact ⟨_, he.trans hi⟩
  · rcases runSequencer_cases s with ⟨hc, _⟩ | ⟨_, hq⟩ | ⟨_, hq⟩
    · exact absurd hc (Nat.ne_of_gt (h hp))
    · exact ⟨_, he.trans hq⟩
    · exact ⟨_, he.trans hq⟩

/-- A step stops in a busy state with `cnt = 0` only. -/
theorem step_answers_next {s : State} (h : s.ph ≠ .idle → 1 ≤ s.cnt) : ∃ t, step s = .next t := by
  have he : ∃ t, edgeStep s.input s = .next t := by
    rw [edgeStep_eq]
    split
    · exact driverStep_answers_next _ h
    · exact ⟨s, rfl⟩
  obtain ⟨t, ht⟩ := he
  exact ⟨_, (step_next_iff _ _).2 ⟨t, ht, rfl⟩⟩

/-! ## The rows of the invariant table (10_state.md R34) -/

section Rows

variable {s : State}

/-- The row `IDLE` is the idle state of R33. -/
theorem driverInv_iff_of_idle (h : s.ph = .idle) : DriverInv s ↔ IdleState s := by
  simp only [DriverInv, IdleState, h]
  tauto

theorem driverInv_iff_of_lsettle (h : s.ph = .lsettle) :
    DriverInv s ↔ s.latchLine = .low ∧ s.clockLine = .z ∧ s.dataLine = .z ∧ CntIn s s.cfg.config.tLSettle ∧
      s.bit = 0 := by
  simp only [DriverInv, h]

theorem driverInv_iff_of_setup (h : s.ph = .setup) :
    DriverInv s ↔ s.latchLine = .low ∧ s.clockLine = (if s.bit = 0 then .z else .low) ∧ DataIs s s.bit.val ∧
      CntIn s s.cfg.config.tSetup := by
  simp only [DriverInv, h]

theorem driverInv_iff_of_chigh (h : s.ph = .chigh) :
    DriverInv s ↔ s.latchLine = .low ∧ s.clockLine = .z ∧ DataIs s s.bit.val ∧ CntIn s s.cfg.config.tHalf := by
  simp only [DriverInv, h]

theorem driverInv_iff_of_clow (h : s.ph = .clow) :
    DriverInv s ↔ s.latchLine = .low ∧ s.clockLine = .low ∧ DataIs s s.bit.val ∧ CntIn s s.cfg.config.tHalf := by
  simp only [DriverInv, h]

theorem driverInv_iff_of_lhigh (h : s.ph = .lhigh) :
    DriverInv s ↔ s.latchLine = .z ∧ s.clockLine = .low ∧ DataIs s 15 ∧ CntIn s s.cfg.config.tLHigh ∧ s.bit = 0 := by
  simp only [DriverInv, h]

theorem driverInv_iff_of_lfinal (h : s.ph = .lfinal) :
    DriverInv s ↔ s.latchLine = .low ∧ s.clockLine = .low ∧ DataIs s 15 ∧ CntIn s s.cfg.config.tLFinal ∧ s.bit = 0 := by
  simp only [DriverInv, h]

/-- In every busy row `cnt` is at least 1. -/
theorem one_le_cnt_of_driverInv (hi : DriverInv s) (hp : s.ph ≠ .idle) : 1 ≤ s.cnt := by
  cases hq : s.ph with
  | idle => exact absurd hq hp
  | lsettle => obtain ⟨_, _, _, hn, _⟩ := (driverInv_iff_of_lsettle hq).1 hi; exact hn.1
  | setup => obtain ⟨_, _, _, hn⟩ := (driverInv_iff_of_setup hq).1 hi; exact hn.1
  | chigh => obtain ⟨_, _, _, hn⟩ := (driverInv_iff_of_chigh hq).1 hi; exact hn.1
  | clow => obtain ⟨_, _, _, hn⟩ := (driverInv_iff_of_clow hq).1 hi; exact hn.1
  | lhigh => obtain ⟨_, _, _, hn, _⟩ := (driverInv_iff_of_lhigh hq).1 hi; exact hn.1
  | lfinal => obtain ⟨_, _, _, hn, _⟩ := (driverInv_iff_of_lfinal hq).1 hi; exact hn.1

end Rows

/-- The table speaks of no field that `aroundEdge` changes. -/
@[simp] theorem driverInv_aroundEdge (rst : Bool) (s t : State) : DriverInv (aroundEdge rst s t) ↔ DriverInv t := Iff.rfl

/-! ## What the driver does keeps the table -/

/-- A phase is entered with its whole hold, which is at least 1 (00_scope.md R9). -/
theorem cntIn_enter (s : State) (p : Phase) {n : Nat} (h : 1 ≤ n) : CntIn (s.enter p n) n := ⟨h, Nat.le_refl n⟩

theorem driverInv_resetDriver (s : State) : DriverInv (resetDriver s) :=
  (driverInv_iff_of_idle rfl).2 ⟨rfl, rfl, rfl, rfl, rfl, rfl⟩

section Kept

variable {s : State}

theorem driverInv_raiseReject (hp : s.ph = .idle) (hi : DriverInv s) (c : Cause) : DriverInv (s.raiseReject c) := by
  have hp' : (s.raiseReject c).ph = .idle := by simpa using hp
  rw [driverInv_iff_of_idle hp']
  simpa [IdleState] using (driverInv_iff_of_idle hp).1 hi

theorem driverInv_startRender (hp : s.ph = .idle) (hi : DriverInv s) (fr : Frame) : DriverInv (s.startRender fr) := by
  obtain ⟨_, _, _, hclock, hdata, _⟩ := (driverInv_iff_of_idle hp).1 hi
  obtain ⟨_, _, hn, _, _⟩ := s.cfg.one_le_holds
  exact (driverInv_iff_of_lsettle rfl).2 ⟨rfl, hclock, hdata, cntIn_enter _ _ hn, rfl⟩

/-- COUNT stays within the row: only `cnt` changes, and it stays at least 1. -/
theorem driverInv_countDown (hp : s.ph ≠ .idle) (hc : 1 < s.cnt) (hi : DriverInv s) :
    DriverInv { s with cnt := s.cnt - 1 } := by
  have hcnt : ∀ n, CntIn s n → CntIn { s with cnt := s.cnt - 1 } n :=
    fun n h => ⟨Nat.le_sub_one_of_lt hc, (Nat.sub_le _ _).trans h.2⟩
  cases hq : s.ph with
  | idle => exact absurd hq hp
  | lsettle =>
    obtain ⟨hl, hk, hd, hn, hb⟩ := (driverInv_iff_of_lsettle hq).1 hi
    exact (driverInv_iff_of_lsettle rfl).2 ⟨hl, hk, hd, hcnt _ hn, hb⟩
  | setup =>
    obtain ⟨hl, hk, hd, hn⟩ := (driverInv_iff_of_setup hq).1 hi
    exact (driverInv_iff_of_setup rfl).2 ⟨hl, hk, hd, hcnt _ hn⟩
  | chigh =>
    obtain ⟨hl, hk, hd, hn⟩ := (driverInv_iff_of_chigh hq).1 hi
    exact (driverInv_iff_of_chigh rfl).2 ⟨hl, hk, hd, hcnt _ hn⟩
  | clow =>
    obtain ⟨hl, hk, hd, hn⟩ := (driverInv_iff_of_clow hq).1 hi
    exact (driverInv_iff_of_clow rfl).2 ⟨hl, hk, hd, hcnt _ hn⟩
  | lhigh =>
    obtain ⟨hl, hk, hd, hn, hb⟩ := (driverInv_iff_of_lhigh hq).1 hi
    exact (driverInv_iff_of_lhigh rfl).2 ⟨hl, hk, hd, hcnt _ hn, hb⟩
  | lfinal =>
    obtain ⟨hl, hk, hd, hn, hb⟩ := (driverInv_iff_of_lfinal hq).1 hi
    exact (driverInv_iff_of_lfinal rfl).2 ⟨hl, hk, hd, hcnt _ hn, hb⟩

theorem driverInv_beginBits (hp : s.ph = .lsettle) (hi : DriverInv s) : DriverInv (beginBits s) := by
  obtain ⟨hl, hk, _, _, hb⟩ := (driverInv_iff_of_lsettle hp).1 hi
  obtain ⟨_, hn, _⟩ := s.cfg.one_le_holds
  have hbit : (beginBits s).bit = 0 := hb
  refine (driverInv_iff_of_setup rfl).2 ⟨hl, ?_, ?_, cntIn_enter _ _ hn⟩
  · rw [if_pos hbit]; exact hk
  · rw [hbit]; rfl

theorem driverInv_beginPulse (hp : s.ph = .setup) (hi : DriverInv s) : DriverInv (beginPulse s) := by
  obtain ⟨hl, _, hd, _⟩ := (driverInv_iff_of_setup hp).1 hi
  obtain ⟨hn, _⟩ := s.cfg.one_le_holds
  exact (driverInv_iff_of_chigh rfl).2 ⟨hl, rfl, hd, cntIn_enter _ _ hn⟩

theorem driverInv_fallClock (hp : s.ph = .chigh) (hi : DriverInv s) : DriverInv (fallClock s) := by
  obtain ⟨hl, _, hd, _⟩ := (driverInv_iff_of_chigh hp).1 hi
  obtain ⟨hn, _⟩ := s.cfg.one_le_holds
  exact (driverInv_iff_of_clow rfl).2 ⟨hl, rfl, hd, cntIn_enter _ _ hn⟩

/-- Out of `CLOW`: a next bit is never bit 0, so CLOCK may stay low; after bit 15 DATA still holds bit 15. -/
theorem driverInv_nextBit (hp : s.ph = .clow) (hi : DriverInv s) : DriverInv (nextBit s) := by
  obtain ⟨hl, hk, hd, _⟩ := (driverInv_iff_of_clow hp).1 hi
  obtain ⟨_, hsetup, _, hlhigh, _⟩ := s.cfg.one_le_holds
  by_cases hb : s.bit.val < 15
  · rw [nextBit_of_lt hb]
    have hclock : s.clockLine = if (⟨s.bit.val + 1, by omega⟩ : Fin 16) = 0 then .z else .low :=
      hk.trans (if_neg (Fin.ne_of_val_ne (Nat.succ_ne_zero _))).symm
    exact (driverInv_iff_of_setup rfl).2 ⟨hl, hclock, rfl, cntIn_enter _ _ hsetup⟩
  · rw [nextBit_of_last hb]
    have hlast : s.bit.val = 15 := by omega
    rw [hlast] at hd
    exact (driverInv_iff_of_lhigh rfl).2 ⟨rfl, hk, hd, cntIn_enter _ _ hlhigh, rfl⟩

theorem driverInv_fallLatch (hp : s.ph = .lhigh) (hi : DriverInv s) : DriverInv (fallLatch s) := by
  obtain ⟨_, hk, hd, _, hb⟩ := (driverInv_iff_of_lhigh hp).1 hi
  obtain ⟨_, _, _, _, hn⟩ := s.cfg.one_le_holds
  exact (driverInv_iff_of_lfinal rfl).2 ⟨rfl, hk, hd, cntIn_enter _ _ hn, hb⟩

theorem driverInv_finishRender (hp : s.ph = .lfinal) (hi : DriverInv s) : DriverInv (finishRender s) := by
  obtain ⟨_, _, _, _, hb⟩ := (driverInv_iff_of_lfinal hp).1 hi
  exact (driverInv_iff_of_idle rfl).2 ⟨rfl, hb, rfl, rfl, rfl, rfl⟩

/-- ADVANCE leads from each row of the table into the next phase's. -/
theorem driverInv_advance (hi : DriverInv s) : DriverInv (advance s) := by
  unfold advance
  split
  next => exact hi
  next hp => exact driverInv_beginBits hp hi
  next hp => exact driverInv_beginPulse hp hi
  next hp => exact driverInv_fallClock hp hi
  next hp => exact driverInv_nextBit hp hi
  next hp => exact driverInv_fallLatch hp hi
  next hp => exact driverInv_finishRender hp hi

theorem driverInv_step {t : State} (hi : DriverInv s) (h : step s = .next t) : DriverInv t := by
  obtain ⟨u, rfl, hu⟩ := step_cases h
  rw [driverInv_aroundEdge]
  rcases hu with ⟨_, rfl⟩ | ⟨_, rfl, _⟩ | ⟨_, hp, _, c, _, rfl⟩ | ⟨_, hp, _, _, _, _, _, rfl⟩ |
      ⟨_, hp, hc, rfl⟩ | ⟨_, _, _, rfl⟩
  · exact driverInv_resetDriver s
  · exact hi
  · exact driverInv_raiseReject hp hi c
  · exact driverInv_startRender hp hi _
  · exact driverInv_countDown hp hc hi
  · exact driverInv_advance hi

end Kept

/-! ## What a step does to the reject record, to `FR` and to `Config` -/

/-- A step clears the record (reset), keeps it, or makes the first entry in it (60_exceptions.md R134). -/
theorem step_record_cases {s t : State} (h : step s = .next t) :
    (s.input.rst = true ∧ t.fault = false ∧ t.cause = 0#3) ∨ (t.fault = s.fault ∧ t.cause = s.cause) ∨
      (s.fault = false ∧ t.fault = true ∧ ∃ c : Cause, t.cause = c.number) := by
  obtain ⟨u, rfl, hu⟩ := step_cases h
  rcases hu with ⟨hr, rfl⟩ | ⟨_, rfl, _⟩ | ⟨_, _, _, c, _, rfl⟩ | ⟨_, _, _, _, _, _, _, rfl⟩ |
      ⟨_, _, _, rfl⟩ | ⟨_, _, _, rfl⟩
  · exact .inl ⟨hr, rfl, rfl⟩
  · exact .inr (.inl ⟨rfl, rfl⟩)
  · cases hf : s.fault
    · exact .inr (.inr ⟨rfl, by simp, c, by simp [hf]⟩)
    · exact .inr (.inl ⟨by simp, by simp [hf]⟩)
  · exact .inr (.inl ⟨rfl, rfl⟩)
  · exact .inr (.inl ⟨rfl, rfl⟩)
  · obtain ⟨_, hf, hc, _⟩ := advance_keeps s
    exact .inr (.inl ⟨hf, hc⟩)

/-- A step loads `FR` at a reset and at an accept, and keeps it otherwise (10_state.md R22). -/
theorem step_fr_cases {s t : State} (h : step s = .next t) :
    s.input.rst = true ∨ (s.ph = .idle ∧ t.ph = .lsettle) ∨ t.fr = s.fr := by
  obtain ⟨u, rfl, hu⟩ := step_cases h
  rcases hu with ⟨hr, _⟩ | ⟨_, rfl, _⟩ | ⟨_, _, _, c, _, rfl⟩ | ⟨_, hp, _, _, _, _, _, rfl⟩ |
      ⟨_, _, _, rfl⟩ | ⟨_, _, _, rfl⟩
  · exact .inl hr
  · exact .inr (.inr rfl)
  · exact .inr (.inr (State.raiseReject_fr s c))
  · exact .inr (.inl ⟨hp, rfl⟩)
  · exact .inr (.inr rfl)
  · obtain ⟨hf, _⟩ := advance_keeps s
    exact .inr (.inr hf)

theorem step_cfg {s t : State} (h : step s = .next t) : t.cfg = s.cfg := by
  obtain ⟨u, rfl, hu⟩ := step_cases h
  rcases hu with ⟨_, rfl⟩ | ⟨_, rfl, _⟩ | ⟨_, _, _, c, _, rfl⟩ | ⟨_, _, _, _, _, _, _, rfl⟩ |
      ⟨_, _, _, rfl⟩ | ⟨_, _, _, rfl⟩
  · rfl
  · rfl
  · exact State.raiseReject_cfg s c
  · rfl
  · rfl
  · obtain ⟨_, _, _, hc, _⟩ := advance_keeps s
    exact hc

/-- A step is a boundary of the receiver, which keeps its parameters (20_memory.md R48). -/
theorem step_rx_parameters {s t : State} (h : step s = .next t) :
    t.rx.sample = s.rx.sample ∧ t.rx.commit = s.rx.commit := by
  obtain ⟨u, rfl, _⟩ := step_cases h
  exact ⟨receiverBoundary_sample .., receiverBoundary_commit ..⟩

/-! ## The reject record influences nothing (10_state.md R27, 60_exceptions.md R135)

The record is forgotten by overwriting it. Each operation answers the same up to the record from states that are the same
up to the record. -/

/-- The state with another reject record. -/
def State.withRecord (s : State) (f : Bool) (c : BitVec 3) : State := { s with fault := f, cause := c }

/-- An outcome up to the reject record. -/
def forgetRecord : Host.Outcome State Fault Refusal → Host.Outcome State Fault Refusal
  | .next t => .next (t.withRecord false 0#3)
  | .fault r => .fault r
  | .refused r => .refused r

section Record

variable (s : State) (f : Bool) (c : BitVec 3)

@[simp] theorem State.withRecord_withRecord (f' : Bool) (c' : BitVec 3) :
    (s.withRecord f c).withRecord f' c' = s.withRecord f' c' := rfl

@[simp] theorem forgetRecord_next (t : State) : forgetRecord (.next t) = .next (t.withRecord false 0#3) := rfl

@[simp] theorem State.raiseReject_withRecord (k : Cause) : (s.raiseReject k).withRecord f c = s.withRecord f c := by
  unfold State.raiseReject
  split <;> rfl

@[simp] theorem resetDriver_withRecord : resetDriver (s.withRecord f c) = resetDriver s := rfl

theorem nextBit_withRecord : nextBit (s.withRecord f c) = (nextBit s).withRecord f c := by
  by_cases hb : s.bit.val < 15
  · rw [nextBit_of_lt hb, nextBit_of_lt (s := s.withRecord f c) hb]; rfl
  · rw [nextBit_of_last hb, nextBit_of_last (s := s.withRecord f c) hb]; rfl

theorem advance_withRecord : advance (s.withRecord f c) = (advance s).withRecord f c := by
  have hp : (s.withRecord f c).ph = s.ph := rfl
  unfold advance
  rw [hp]
  cases s.ph with
  | clow => exact nextBit_withRecord s f c
  | idle | lsettle | setup | chigh | lhigh | lfinal => rfl

theorem forgetRecord_runSequencer :
    forgetRecord (runSequencer (s.withRecord f c)) = forgetRecord (runSequencer s) := by
  have hc : (s.withRecord f c).cnt = s.cnt := rfl
  unfold runSequencer
  rw [hc]
  match s.cnt with
  | 0 => rfl
  | 1 => simp [advance_withRecord]
  | _ + 2 => rfl

theorem forgetRecord_exec (i : Instr) : forgetRecord (exec i (s.withRecord f c)) = forgetRecord (exec i s) := by
  by_cases hp : s.ph = .idle
  · have hp' : (s.withRecord f c).ph = .idle := hp
    cases hs : select s.cfg.config.af i with
    | error k => simp [exec_of_select_error hp hs, exec_of_select_error hp' hs]
    | ok m => rw [exec_of_select_ok hp hs, exec_of_select_ok hp' hs]; rfl
  · rw [exec_of_busy i hp, exec_of_busy i (s := s.withRecord f c) hp]; rfl

theorem forgetRecord_issueWord (w : CmdWord) :
    forgetRecord (issueWord w (s.withRecord f c)) = forgetRecord (issueWord w s) := by
  unfold issueWord
  cases decode w with
  | error e => simp
  | ok i => exact forgetRecord_exec s f c i

theorem forgetRecord_edgeStep (p : PortInput) :
    forgetRecord (edgeStep p (s.withRecord f c)) = forgetRecord (edgeStep p s) := by
  have hb : (s.withRecord f c).busy = s.busy := rfl
  simp only [edgeStep_eq, driverStep, hb, resetDriver_withRecord]
  split_ifs
  · rfl
  · exact forgetRecord_runSequencer s f c
  · exact forgetRecord_issueWord s f c p.cmd
  · rfl
  · rfl

theorem next_of_forgetRecord_eq {r : Host.Outcome State Fault Refusal} {t : State}
    (h : forgetRecord r = .next (t.withRecord false 0#3)) :
    ∃ t', r = .next t' ∧ t'.withRecord false 0#3 = t.withRecord false 0#3 := by
  cases r with
  | next t' => exact ⟨t', rfl, by simpa using h⟩
  | fault _ => cases h
  | refused _ => cases h

theorem fault_of_forgetRecord_eq {r : Host.Outcome State Fault Refusal} {e : Fault}
    (h : forgetRecord r = .fault e) : r = .fault e := by
  cases r with
  | next _ => cases h
  | fault _ => exact h
  | refused _ => cases h

/-- What `clockEdge` does around the driver's outcome. -/
def aroundOutcome (s : State) : Host.Outcome State Fault Refusal → Host.Outcome State Fault Refusal
  | .next t => .next (aroundEdge s.input.rst s t)
  | .fault r => .fault r
  | .refused r => .refused r

theorem step_eq_aroundOutcome : step s = aroundOutcome s (edgeStep s.input s) := rfl

/-- What goes on around the driver does not look at the record. -/
theorem forgetRecord_aroundOutcome (r : Host.Outcome State Fault Refusal) :
    forgetRecord (aroundOutcome (s.withRecord f c) r) = aroundOutcome s (forgetRecord r) := by
  cases r <;> rfl

theorem forgetRecord_step : forgetRecord (step (s.withRecord f c)) = forgetRecord (step s) :=
  calc forgetRecord (step (s.withRecord f c))
      _ = aroundOutcome s (forgetRecord (edgeStep s.input (s.withRecord f c))) := by
        rw [step_eq_aroundOutcome]; exact forgetRecord_aroundOutcome s f c _
      _ = aroundOutcome s (forgetRecord (edgeStep s.input s)) := by rw [forgetRecord_edgeStep]
      _ = forgetRecord (step s) := by
        rw [step_eq_aroundOutcome]; exact (forgetRecord_aroundOutcome s s.fault s.cause _).symm

end Record

/-! ## The outputs -/

@[simp] theorem LineState.lowEnable_eq_true (v : LineState) : v.lowEnable = true ↔ v = .low := by
  cases v <;> simp [LineState.lowEnable]

/-- A wire is low exactly while its pad driver is on (70_reset_and_hazards.md R155). -/
theorem LineState.level_eq_not_lowEnable (v : LineState) : v.level = !v.lowEnable := by
  cases v <;> rfl

theorem State.cmdReady_eq_not_busy (s : State) : s.cmdReady = !s.busy := by
  simp [State.cmdReady, State.busy]

/-! ## The obligations -/

/-- Settles O34, by the row of the phase before the step: each case of R108 leads into the row of the next phase. -/
theorem driverInvariantKept : Obligations.DriverInvariantKept :=
  fun _ _ hi h => driverInv_step hi h

/-- Settles O24: without reset a step keeps the record or makes its first entry. -/
theorem rejectRecordIsSticky : Obligations.RejectRecordIsSticky := by
  intro s t h hr hf
  rcases step_record_cases h with ⟨hrst, _⟩ | ⟨hf', hc⟩ | ⟨hnone, _⟩
  · simp [hr] at hrst
  · exact ⟨hf'.trans hf, hc⟩
  · simp [hf] at hnone

/-- Settles O25: a step commutes with forgetting the record. -/
theorem rejectRecordInfluencesNothing : Obligations.RejectRecordInfluencesNothing := by
  intro s f c
  have hs := forgetRecord_step s f c
  constructor
  · intro t h
    rw [h] at hs
    exact next_of_forgetRecord_eq hs
  · intro r h
    rw [h] at hs
    exact fault_of_forgetRecord_eq hs

/-- Settles O26, by the three things a step can do to the record. -/
theorem rejectRecordInvariantKept : Obligations.RejectRecordInvariantKept := by
  intro s t hok h
  rcases step_record_cases h with ⟨_, hf, hc⟩ | ⟨hf, hc⟩ | ⟨_, hf, hc⟩
  · exact .inl ⟨hf, hc⟩
  · unfold RejectRecordOk
    rw [hf, hc]
    exact hok
  · exact .inr ⟨hf, hc⟩

/-- Settles O35: the busy rows of the table keep `cnt` at least 1. -/
theorem invariantStatesNeverStop : Obligations.InvariantStatesNeverStop :=
  fun _ hi => step_answers_next (one_le_cnt_of_driverInv hi)

/-- Settles O36: the step keeps the table, and its row `IDLE` is the idle state. -/
theorem renderEndsInTheIdleState : Obligations.RenderEndsInTheIdleState :=
  fun _ t hi h _ hb => (driverInv_iff_of_idle ((State.busy_eq_false t).1 hb)).1 (driverInv_step hi h)

/-- Settles O37: of all a step can do, reset and accept alone load `FR`. -/
theorem frameConstantDuringRender : Obligations.FrameConstantDuringRender := by
  intro s t h hne
  rcases step_fr_cases h with hr | ha | hfr
  · exact .inl hr
  · exact .inr ha
  · exact absurd hfr hne

/-- Settles O38, by the cases of a step and the receiver's boundary. -/
theorem configNeverChanges : Obligations.ConfigNeverChanges :=
  fun _ _ h => ⟨step_cfg h, step_rx_parameters h⟩

/-- Settles O29: `aroundEdge` is what the statement writes out, `edgeStep_eq` says when the driver runs. -/
theorem stepIsTheDriverAtAnEdge : Obligations.StepIsTheDriverAtAnEdge := by
  intro s t
  rw [step_next_iff]
  refine exists_congr fun d => and_congr ?_ Iff.rfl
  rw [edgeStep_eq]
  split
  · rfl
  · simp [eq_comm]

/-- Settles O30: at such an edge the driver's step is the command's `exec`, which always answers. -/
theorem stepRunsDecodedInstruction : Obligations.StepRunsDecodedInstruction := by
  intro s i hp hr ht hv hd
  obtain ⟨t, hx⟩ := exec_answers_next i s
  have he : edgeStep s.input s = .next t := by
    simp [edgeStep_eq, driverStep, hr, ht, hp, hv, issueWord_of_decode_ok s hd, hx]
  exact ⟨t, hx, (step_next_iff _ _).2 ⟨t, he, by rw [hr]; rfl⟩⟩

/-- Settles O32, by the fields of `State.reset`. -/
theorem resetStateValues : Obligations.ResetStateValues :=
  ⟨rfl, rfl, rfl, rfl, rfl, rfl, rfl, rfl⟩

/-- Settles O33: the reset state is idle in the sense of R33. -/
theorem driverInvariantAtReset : Obligations.DriverInvariantAtReset :=
  (driverInv_iff_of_idle rfl).2 ⟨rfl, rfl, rfl, rfl, rfl, rfl⟩

/-- Settles O48, by the enable and the level of each line state. -/
theorem outputsFollowTheState : Obligations.OutputsFollowTheState := by
  intro s
  exact ⟨s.busy_eq_true, s.cmdReady_eq_not_busy, rfl, rfl, s.clockLine.lowEnable_eq_true, s.dataLine.lowEnable_eq_true,
    s.latchLine.lowEnable_eq_true, s.clockLine.level_eq_not_lowEnable, s.dataLine.level_eq_not_lowEnable,
    s.latchLine.level_eq_not_lowEnable⟩

end Sys2Proof.Machine
end

section
/-! PROOFS. Family 20_memory.md: the lines at a boundary (R51), the reference receiver (R48, R49), and what it shows after a
whole render (R50). -/

namespace Sys2Proof.Machine

open Safety

/-! ## Which lines a step changes (20_memory.md R51) -/

/-- From `s` to `t` no line changes but `X`. -/
def LinesKeptBut (X : Line) (s t : State) : Prop := ∀ Y, Y ≠ X → t.line Y = s.line Y

theorem linesKeptBut_of_lines_eq {s t : State} (X : Line) (h : t.line = s.line) : LinesKeptBut X s t :=
  fun Y _ => congrFun h Y

theorem linesKeptBut_setLine (s : State) (X : Line) (v : LineState) : LinesKeptBut X s (s.setLine X v) := by
  intro Y hY
  cases X <;> cases Y <;> simp [State.line] at hY ⊢

/-- ADVANCE changes one line at most, but at FINISH. -/
theorem linesKeptBut_advance {s : State} (hp : s.ph ≠ .lfinal) : ∃ X, LinesKeptBut X s (advance s) := by
  unfold advance
  split
  next => exact ⟨.clock, linesKeptBut_of_lines_eq _ rfl⟩
  next => exact ⟨.data, linesKeptBut_setLine s .data _⟩
  next => exact ⟨.clock, linesKeptBut_setLine s .clock _⟩
  next => exact ⟨.clock, linesKeptBut_setLine s .clock _⟩
  next =>
    by_cases hb : s.bit.val < 15
    · rw [nextBit_of_lt hb]
      exact ⟨.data, linesKeptBut_setLine s .data _⟩
    · rw [nextBit_of_last hb]
      exact ⟨.latch, fun Y hY => (linesKeptBut_setLine (s.driveLow .latch) .latch _ Y hY).trans
        (linesKeptBut_setLine s .latch _ Y hY)⟩
  next => exact ⟨.latch, linesKeptBut_setLine s .latch _⟩
  next h => exact absurd h hp

/-- A step without reset changes one line at most, but at FINISH. -/
theorem linesKeptBut_step {s t : State} (h : step s = .next t) (hr : s.input.rst = false)
    (hf : ¬(s.ph = .lfinal ∧ t.ph = .idle)) : ∃ X, LinesKeptBut X s t := by
  obtain ⟨u, rfl, hu⟩ := step_cases h
  rcases hu with ⟨hrst, _⟩ | ⟨_, rfl, _⟩ | ⟨_, _, _, c, _, rfl⟩ | ⟨_, _, _, _, _, _, _, rfl⟩ |
      ⟨_, _, _, rfl⟩ | ⟨_, _, _, rfl⟩
  · simp [hr] at hrst
  · exact ⟨.clock, linesKeptBut_of_lines_eq _ rfl⟩
  · refine ⟨.clock, linesKeptBut_of_lines_eq _ (funext fun Y => ?_)⟩
    cases Y <;> simp [State.line]
  · exact ⟨.latch, linesKeptBut_setLine s .latch _⟩
  · exact ⟨.clock, linesKeptBut_of_lines_eq _ rfl⟩
  · have hp : s.ph ≠ .lfinal := fun hp => hf ⟨hp, by simp [advance, hp, finishRender]⟩
    exact linesKeptBut_advance hp

/-! ## The receiver at one boundary (20_memory.md R49) -/

theorem shows_eq_true (want : Edge) (seen : Option Edge) : shows want seen = true ↔ seen = some want := by
  cases seen <;> simp [shows]

section Boundary

variable {s t : State} (rst : Bool)

theorem aroundEdge_sr_of_sampleEdge (h : edgeOf s.clockLine.level t.clockLine.level = some s.rx.sample) :
    (aroundEdge rst s t).rx.sr = shiftIn s.rx.sr (sampledBit s.wires t.wires (Config.racedDataBit s.draws)) :=
  if_pos ((shows_eq_true _ _).2 h)

theorem aroundEdge_sr_of_no_sampleEdge (h : edgeOf s.clockLine.level t.clockLine.level ≠ some s.rx.sample) :
    (aroundEdge rst s t).rx.sr = s.rx.sr := if_neg (mt (shows_eq_true _ _).1 h)

theorem aroundEdge_out_of_commitEdge (h : edgeOf s.latchLine.level t.latchLine.level = some s.rx.commit) :
    (aroundEdge rst s t).rx.out = s.rx.sr := if_pos ((shows_eq_true _ _).2 h)

theorem aroundEdge_out_of_no_commitEdge (h : edgeOf s.latchLine.level t.latchLine.level ≠ some s.rx.commit) :
    (aroundEdge rst s t).rx.out = s.rx.out := if_neg (mt (shows_eq_true _ _).1 h)

theorem sampledBit_of_dataLine_kept (draw : Bool) (h : t.dataLine = s.dataLine) :
    sampledBit s.wires t.wires draw = t.dataLine.level := if_pos (congrArg LineState.level h.symm)

end Boundary

theorem shiftIn_eq (sr : BitVec 16) (d : Bool) :
    shiftIn sr d = (sr.setWidth 15 ++ BitVec.ofBool d : BitVec (15 + 1)) := by
  rw [shiftIn, BitVec.setWidth_eq_extractLsb' (by omega)]

/-- Settles O39: of the lines two at least are as they were. -/
theorem oneLineChangesAtABoundary : Obligations.OneLineChangesAtABoundary := by
  intro s t h hr hf
  obtain ⟨X, hX⟩ := linesKeptBut_step h hr hf
  cases X with
  | clock => exact .inl ⟨hX .data (by decide), hX .latch (by decide)⟩
  | data => exact .inr (.inl ⟨hX .clock (by decide), hX .latch (by decide)⟩)
  | latch => exact .inr (.inr ⟨hX .clock (by decide), hX .data (by decide)⟩)

/-- Settles O44: every step is one boundary of the receiver. -/
theorem receiverShiftsAndCommits : Obligations.ReceiverShiftsAndCommits := by
  intro s t h
  obtain ⟨u, rfl, _⟩ := step_cases h
  exact ⟨fun he => ⟨_, (aroundEdge_sr_of_sampleEdge _ he).trans (shiftIn_eq _ _),
      fun hd => sampledBit_of_dataLine_kept _ hd.symm⟩,
    aroundEdge_sr_of_no_sampleEdge _, aroundEdge_out_of_commitEdge _, aroundEdge_out_of_no_commitEdge _⟩

/-! ## Shifting a frame in (20_memory.md R44, R49) -/

/-- What a shift register that held `sr` holds when the first `n` bits of `w`, in transmission order, are shifted in
(20_memory.md R44, R49). -/
def received (sr w : BitVec 16) (n : Nat) : BitVec 16 := (sr ++ w : BitVec (16 + 16)).extractLsb' (16 - n) 16

theorem received_zero (sr w : BitVec 16) : received sr w 0 = sr := BitVec.extractLsb'_append_eq_left

theorem received_all (sr w : BitVec 16) : received sr w 16 = w := BitVec.extractLsb'_append_eq_right

theorem getLsbD_received (sr w : BitVec 16) (n : Nat) {i : Nat} (hi : i < 16) :
    (received sr w n).getLsbD i =
      if 16 - n + i < 16 then w.getLsbD (16 - n + i) else sr.getLsbD (16 - n + i - 16) := by
  rw [received, BitVec.getLsbD_extractLsb', BitVec.getLsbD_append, decide_eq_true hi, Bool.true_and]

theorem getLsbD_shiftIn_zero (sr : BitVec 16) (d : Bool) : (shiftIn sr d).getLsbD 0 = d := by
  rw [shiftIn, BitVec.getLsbD_append]
  simp

theorem getLsbD_shiftIn_succ (sr : BitVec 16) (d : Bool) {i : Nat} (hi : i + 1 < 16) :
    (shiftIn sr d).getLsbD (i + 1) = sr.getLsbD i := by
  have : i < 15 := by omega
  rw [shiftIn, BitVec.getLsbD_append]
  simp [this]

theorem received_succ (sr w : BitVec 16) {n : Nat} (h : n < 16) :
    received sr w (n + 1) = shiftIn (received sr w n) (frameBit w n) := by
  apply BitVec.eq_of_getLsbD_eq
  intro i hi
  rw [getLsbD_received sr w _ hi]
  cases i with
  | zero =>
    have : 16 - (n + 1) + 0 = 15 - n := by omega
    rw [getLsbD_shiftIn_zero, this, if_pos (by omega), frameBit]
  | succ i =>
    have : 16 - (n + 1) + (i + 1) = 16 - n + i := by omega
    rw [getLsbD_shiftIn_succ _ _ hi, getLsbD_received sr w n (by omega), this]

theorem received_fifteen_shiftLeft (sr w : BitVec 16) :
    received sr (w <<< 1) 15 = (BitVec.ofBool (sr.getLsbD 0) ++ w.setWidth 15 : BitVec (1 + 15)) := by
  apply BitVec.eq_of_getLsbD_eq
  intro i hi
  rw [getLsbD_received _ _ _ hi, BitVec.getLsbD_append]
  by_cases h : i < 15
  · simp [h, show 1 + i < 16 by omega, BitVec.getLsbD_eq_getElem hi]
  · have : i = 15 := by omega
    subst this
    simp

theorem frameBit_shiftLeft (w : Frame) {j n : Nat} (h : n + j < 16) : frameBit (w <<< j) n = frameBit w (n + j) := by
  have hsub : 15 - n - j = 15 - (n + j) := by omega
  have hlt : 15 - n < 16 := by omega
  have hge : ¬ 15 - n < j := by omega
  rw [frameBit, frameBit, BitVec.getLsbD_shiftLeft, hsub]
  simp only [hlt, hge, decide_true, decide_false, Bool.not_false, Bool.and_self, Bool.true_and]

theorem xorPol_xorPol (pol : Bool) (v : BitVec 16) : xorPol pol (xorPol pol v) = v := by
  cases pol <;> simp [xorPol]

theorem frameBit_xorPol (pol : Bool) (fr : Frame) (k : Nat) : frameBit (xorPol pol fr) k = (frameBit fr k ^^ pol) := by
  have : 15 - k < 16 := by omega
  cases pol <;> simp [xorPol, frameBit, this]

theorem level_dataState (pol : Bool) (fr : Frame) (k : Nat) :
    (dataState pol (frameBit fr k)).level = frameBit (xorPol pol fr) k := by
  rw [frameBit_xorPol]
  cases h : frameBit fr k ^^ pol <;> simp [dataState, h, LineState.level]

/-! ## The ticks a busy block still has to run (41_serial_line_driver.md R109) -/

/-- The ticks of a render after the period of bit `k`. -/
def ticksAfterBit (c : Config) (k : Nat) : Nat := (15 - k) * bitPeriod c + c.tLHigh + c.tLFinal

/-- The busy ticks to come, for a state of the table R34. -/
def ticksLeft (s : State) : Nat :=
  match s.ph with
  | .idle => 0
  | .lsettle => s.cnt + bitPeriod s.cfg.config + ticksAfterBit s.cfg.config 0
  | .setup => s.cnt + 2 * s.cfg.config.tHalf + ticksAfterBit s.cfg.config s.bit.val
  | .chigh => s.cnt + s.cfg.config.tHalf + ticksAfterBit s.cfg.config s.bit.val
  | .clow => s.cnt + ticksAfterBit s.cfg.config s.bit.val
  | .lhigh => s.cnt + s.cfg.config.tLFinal
  | .lfinal => s.cnt

theorem ticksAfterBit_of_lt (c : Config) {k : Nat} (h : k < 15) :
    ticksAfterBit c k = bitPeriod c + ticksAfterBit c (k + 1) := by
  have : 15 - k = (15 - (k + 1)) + 1 := by omega
  rw [ticksAfterBit, ticksAfterBit, this, Nat.add_mul]
  omega

theorem ticksAfterBit_last (c : Config) : ticksAfterBit c 15 = c.tLHigh + c.tLFinal := by
  simp [ticksAfterBit]

theorem renderTicks_eq (c : Config) : renderTicks c = c.tLSettle + bitPeriod c + ticksAfterBit c 0 := by
  simp only [renderTicks, ticksAfterBit]
  omega

@[simp] theorem ticksLeft_aroundEdge (rst : Bool) (s t : State) : ticksLeft (aroundEdge rst s t) = ticksLeft t := rfl

/-- An accepted frame is rendered in `D` busy ticks. -/
theorem ticksLeft_startRender (s : State) (fr : Frame) : ticksLeft (s.startRender fr) = renderTicks s.cfg.config :=
  (renderTicks_eq _).symm

theorem ticksLeft_countDown {s : State} (hp : s.ph ≠ .idle) (hc : 1 < s.cnt) :
    ticksLeft { s with cnt := s.cnt - 1 } + 1 = ticksLeft s := by
  cases hq : s.ph with
  | idle => exact absurd hq hp
  | lsettle | setup | chigh | clow | lhigh | lfinal => simp only [ticksLeft, hq]; omega

/-- Out of `CLOW`, into the next bit's period or into the latch pulse. -/
theorem ticksLeft_nextBit (s : State) : ticksLeft (nextBit s) = ticksAfterBit s.cfg.config s.bit.val := by
  by_cases hb : s.bit.val < 15
  · rw [nextBit_of_lt hb, ticksAfterBit_of_lt _ hb]
    rfl
  · have hlast : s.bit.val = 15 := by omega
    rw [nextBit_of_last hb, hlast, ticksAfterBit_last]
    rfl

theorem ticksLeft_beginBits {s : State} (hb : s.bit = 0) :
    ticksLeft (beginBits s) = bitPeriod s.cfg.config + ticksAfterBit s.cfg.config 0 := by
  simp [ticksLeft, beginBits, bitPeriod, hb]

theorem ticksLeft_beginPulse (s : State) :
    ticksLeft (beginPulse s) = s.cfg.config.tHalf + s.cfg.config.tHalf + ticksAfterBit s.cfg.config s.bit.val := rfl

theorem ticksLeft_fallClock (s : State) :
    ticksLeft (fallClock s) = s.cfg.config.tHalf + ticksAfterBit s.cfg.config s.bit.val := rfl

theorem ticksLeft_fallLatch (s : State) : ticksLeft (fallLatch s) = s.cfg.config.tLFinal := rfl

theorem ticksLeft_finishRender (s : State) : ticksLeft (finishRender s) = 0 := rfl

theorem ticksLeft_advance {s : State} (hi : DriverInv s) (hp : s.ph ≠ .idle) (hc : s.cnt = 1) :
    ticksLeft (advance s) + 1 = ticksLeft s := by
  unfold advance
  split
  next hq => exact absurd hq hp
  next hq =>
    obtain ⟨_, _, _, _, hb⟩ := (driverInv_iff_of_lsettle hq).1 hi
    rw [ticksLeft_beginBits hb]
    simp only [ticksLeft, hq, hc]
    omega
  next hq =>
    rw [ticksLeft_beginPulse]
    simp only [ticksLeft, hq, hc]
    omega
  next hq =>
    rw [ticksLeft_fallClock]
    simp only [ticksLeft, hq, hc]
    omega
  next hq =>
    rw [ticksLeft_nextBit]
    simp only [ticksLeft, hq, hc]
    omega
  next hq =>
    rw [ticksLeft_fallLatch]
    simp only [ticksLeft, hq, hc]
    omega
  next hq =>
    rw [ticksLeft_finishRender]
    simp only [ticksLeft, hq, hc]

theorem ticksLeft_pos {s : State} (hi : DriverInv s) (hp : s.ph ≠ .idle) : 0 < ticksLeft s := by
  have hc := one_le_cnt_of_driverInv hi hp
  cases hq : s.ph with
  | idle => exact absurd hq hp
  | lsettle | setup | chigh | clow | lhigh | lfinal => simp only [ticksLeft, hq]; omega

theorem ph_ne_idle_of_ticksLeft_pos {s : State} (h : 0 < ticksLeft s) : s.ph ≠ .idle :=
  fun hp => by simp [ticksLeft, hp] at h

/-! ## What holds along the busy ticks of a render -/

/-- Counting down and advancing keep `I`, in the busy states of the table R34. -/
def KeptByBusyTicks (I : State → Prop) : Prop :=
  ∀ s, DriverInv s → s.ph ≠ .idle → I s →
    (1 < s.cnt → I (aroundEdge false s { s with cnt := s.cnt - 1 })) ∧
      (s.cnt = 1 → I (aroundEdge false s (advance s)))

/-- A tick of a busy block (R112) uses up one of the ticks left and keeps what busy ticks keep. -/
theorem step_busyTick {I : State → Prop} (hI : KeptByBusyTicks I) {s : State} (hr : s.input.rst = false)
    (ht : s.input.tick = true) (hp : s.ph ≠ .idle) (hi : DriverInv s) (hs : I s) :
    ∃ t, step s = .next t ∧ ticksLeft t + 1 = ticksLeft s ∧ I t := by
  obtain ⟨hcount, hadvance⟩ := step_busy hr ht hp
  obtain ⟨hIcount, hIadvance⟩ := hI s hi hp hs
  rcases (one_le_cnt_of_driverInv hi hp).lt_or_eq with hc | hc
  · exact ⟨_, hcount hc, ticksLeft_countDown hp hc, hIcount hc⟩
  · exact ⟨_, hadvance hc.symm, ticksLeft_advance hi hp hc.symm, hIadvance hc.symm⟩

theorem run_busyTicks {I : State → Prop} (hI : KeptByBusyTicks I) {j : Nat} {s : State} (hj : j ≤ ticksLeft s)
    (hi : DriverInv s) (hu : UndisturbedFor s j) (hs : I s) :
    ∃ t, Host.Core.run core j s = .next t ∧ ticksLeft t + j = ticksLeft s ∧ DriverInv t ∧ I t := by
  induction j generalizing s with
  | zero => exact ⟨s, rfl, rfl, hi, hs⟩
  | succ j ih =>
    obtain ⟨hr, ht⟩ := UndisturbedFor_head hu
    obtain ⟨u, hstep, hleft, hIu⟩ :=
      step_busyTick hI hr ht (ph_ne_idle_of_ticksLeft_pos (Nat.zero_lt_of_lt hj)) hi hs
    obtain ⟨t, hrun, hleft', hit, hIt⟩ := ih (s := u) (by omega) (driverInv_step hi hstep)
      (UndisturbedFor_tail hu (step_inputs hstep)) hIu
    exact ⟨t, (run_succ j hstep).trans hrun, by omega, hit, hIt⟩

/-- From `s` to `t` the frame, `Config` and the receiver's parameters are the same. -/
def SameRender (s t : State) : Prop :=
  t.fr = s.fr ∧ t.cfg = s.cfg ∧ t.rx.sample = s.rx.sample ∧ t.rx.commit = s.rx.commit

theorem sameRender_keptByBusyTicks (s₀ : State) : KeptByBusyTicks (SameRender s₀) := by
  intro s _ _ hs
  obtain ⟨hfr, _, _, hcfg, _⟩ := advance_keeps s
  obtain ⟨hfr₀, hcfg₀, hrx⟩ := hs
  exact ⟨fun _ => ⟨hfr₀, hcfg₀, hrx⟩, fun _ => ⟨hfr.trans hfr₀, hcfg.trans hcfg₀, hrx⟩⟩

theorem KeptByBusyTicks.and {I J : State → Prop} (hI : KeptByBusyTicks I) (hJ : KeptByBusyTicks J) :
    KeptByBusyTicks fun s => I s ∧ J s := by
  rintro s hi hp ⟨hIs, hJs⟩
  obtain ⟨hIcount, hIadvance⟩ := hI s hi hp hIs
  obtain ⟨hJcount, hJadvance⟩ := hJ s hi hp hJs
  exact ⟨fun hc => ⟨hIcount hc, hJcount hc⟩, fun hc => ⟨hIadvance hc, hJadvance hc⟩⟩

/-! ## An accept, and the run after it -/

theorem driverInv_of_acceptsFrame {s : State} {fr : Frame} (h : AcceptsFrame s fr) : DriverInv s := by
  obtain ⟨hidle, _⟩ := h
  exact (driverInv_iff_of_idle hidle.1).2 hidle

/-- The state after an accept. -/
def acceptedState (s : State) (fr : Frame) : State := aroundEdge false s (s.startRender fr)

theorem step_of_acceptsFrame {s : State} {fr : Frame} (h : AcceptsFrame s fr) :
    step s = .next (acceptedState s fr) := by
  obtain ⟨⟨hp, _⟩, hr, ht, hv, i, m, hd, hm, rfl⟩ := h
  have he : edgeStep s.input s = .next (s.startRender (encodeFrame s.cfg.config m)) := by
    simp [edgeStep_eq, driverStep, hr, ht, hp, hv, issueWord_of_decode_ok s hd, exec_of_select_ok hp hm]
  exact (step_next_iff _ _).2 ⟨_, he, by rw [hr]; rfl⟩

/-- What holds after an accept and is kept by busy ticks holds at every tick of the render, and when it is over. -/
theorem run_of_acceptsFrame {I : State → Prop} (hI : KeptByBusyTicks I) {s : State} {fr : Frame} {j : Nat}
    (h : AcceptsFrame s fr) (hj : j ≤ renderTicks s.cfg.config) (hu : UndisturbedFor s (1 + j))
    (hs : I (acceptedState s fr)) :
    ∃ t, Host.Core.run core (1 + j) s = .next t ∧ ticksLeft t + j = renderTicks s.cfg.config ∧ DriverInv t ∧
      SameRender (acceptedState s fr) t ∧ I t := by
  have hstep := step_of_acceptsFrame h
  have hi : DriverInv s := driverInv_of_acceptsFrame h
  have hleft : ticksLeft (acceptedState s fr) = renderTicks s.cfg.config := ticksLeft_startRender s fr
  rw [Nat.add_comm] at hu ⊢
  obtain ⟨t, hrun, hleft', hit, hIt, hsame⟩ := run_busyTicks (hI.and (sameRender_keptByBusyTicks (acceptedState s fr)))
    (hj.trans_eq hleft.symm) (driverInv_step hi hstep) (UndisturbedFor_tail hu (step_inputs hstep))
    ⟨hs, rfl, rfl, rfl, rfl⟩
  exact ⟨t, (run_succ j hstep).trans hrun, hleft'.trans hleft, hit, hsame, hIt⟩

/-! ## The bits the receiver has shifted in (20_memory.md R48, R50) -/

/-- The bits of a frame at whose clock pulse the receiver sees no sample edge: CLOCK is released already when bit 0 is set up
(10_state.md R34), so its pulse shows no rise. -/
def skippedBits : Edge → Nat
  | .fall => 0
  | .rise => 1

/-- The wire levels that stand for the frame in `FR`. -/
def wireFrame (s : State) : BitVec 16 := xorPol s.cfg.config.pol s.fr

/-- `SR`, from `sr₀` at the accept, when the sample edges of the bits below `k` are past. -/
def bitsReceived (sr₀ : BitVec 16) (s : State) (k : Nat) : BitVec 16 :=
  received sr₀ (wireFrame s <<< skippedBits s.rx.sample) (k - skippedBits s.rx.sample)

theorem bitsReceived_zero (sr₀ : BitVec 16) (s : State) : bitsReceived sr₀ s 0 = sr₀ := by
  rw [bitsReceived, Nat.zero_sub, received_zero]

/-- A receiver that shifts on the rising edge receives nothing with bit 0. -/
theorem bitsReceived_one_of_rise (sr₀ : BitVec 16) {s : State} (h : s.rx.sample = .rise) :
    bitsReceived sr₀ s 1 = sr₀ := by
  rw [bitsReceived, h]
  exact received_zero _ _

theorem bitsReceived_succ (sr₀ : BitVec 16) (s : State) {k : Nat} (hk : k < 16) (hs : skippedBits s.rx.sample ≤ k) :
    bitsReceived sr₀ s (k + 1) = shiftIn (bitsReceived sr₀ s k) (frameBit (wireFrame s) k) := by
  rw [bitsReceived, Nat.sub_add_comm hs, received_succ _ _ (by omega), frameBit_shiftLeft _ (by omega),
    Nat.sub_add_cancel hs]
  rfl

theorem bitsReceived_all_of_fall (sr₀ : BitVec 16) {s : State} (h : s.rx.sample = .fall) :
    bitsReceived sr₀ s 16 = wireFrame s := by
  rw [bitsReceived, h]
  exact (received_all _ _).trans (BitVec.shiftLeft_zero _)

theorem bitsReceived_all_of_rise (sr₀ : BitVec 16) {s : State} (h : s.rx.sample = .rise) :
    bitsReceived sr₀ s 16 = (BitVec.ofBool (sr₀.getLsbD 0) ++ (wireFrame s).setWidth 15 : BitVec (1 + 15)) := by
  rw [bitsReceived, h]
  exact received_fifteen_shiftLeft _ _

/-- A sample edge while DATA holds bit `k` shifts that bit in. -/
theorem aroundEdge_sr_of_bit {s t : State} {sr₀ : BitVec 16} {k : Nat} (rst : Bool)
    (hclock : edgeOf s.clockLine.level t.clockLine.level = some s.rx.sample) (hkept : t.dataLine = s.dataLine)
    (hdata : DataIs s k) (hk : k < 16) (hs : skippedBits s.rx.sample ≤ k) (hsr : s.rx.sr = bitsReceived sr₀ s k) :
    (aroundEdge rst s t).rx.sr = bitsReceived sr₀ s (k + 1) := by
  have hlevel : t.dataLine.level = frameBit (wireFrame s) k := by
    rw [hkept, hdata, level_dataState]
    rfl
  rw [aroundEdge_sr_of_sampleEdge rst hclock, sampledBit_of_dataLine_kept _ hkept, hlevel, hsr,
    bitsReceived_succ sr₀ s hk hs]

/-! ## The receiver during a render -/

/-- What the receiver holds, by the phase, in a render that began when `SR` was `sr₀`. In `CHIGH` of bit `k` only a receiver
that shifts on the rising edge has bit `k`; from `LHIGH` on `OUT` holds the frame where the rise of LATCH commits, from
`LFINAL` on for either commit edge (20_memory.md R50). -/
def ReceiverInv (sr₀ : BitVec 16) (s : State) : Prop :=
  match s.ph with
  | .idle => s.rx.out = bitsReceived sr₀ s 16 ∧ (s.rx.sample = .fall → s.rx.sr = s.rx.out) ∧ s.rxUnknown = false
  | .lsettle => s.rx.sr = bitsReceived sr₀ s 0
  | .setup => s.rx.sr = bitsReceived sr₀ s s.bit.val
  | .chigh => s.rx.sr = bitsReceived sr₀ s (s.bit.val + skippedBits s.rx.sample)
  | .clow => s.rx.sr = bitsReceived sr₀ s (s.bit.val + 1)
  | .lhigh => s.rx.sr = bitsReceived sr₀ s 16 ∧ (s.rx.commit = .rise → s.rx.out = s.rx.sr)
  | .lfinal => s.rx.sr = bitsReceived sr₀ s 16 ∧ s.rx.out = s.rx.sr

section ReceiverKept

variable {sr₀ : BitVec 16} {s : State}

theorem aroundEdge_sr_of_clockLine_kept {t : State} (rst : Bool) (h : t.clockLine = s.clockLine) :
    (aroundEdge rst s t).rx.sr = s.rx.sr :=
  aroundEdge_sr_of_no_sampleEdge rst (by simp [h])

theorem aroundEdge_out_of_latchLine_kept {t : State} (rst : Bool) (h : t.latchLine = s.latchLine) :
    (aroundEdge rst s t).rx.out = s.rx.out :=
  aroundEdge_out_of_no_commitEdge rst (by simp [h])

theorem receiverInv_acceptedState (s : State) (fr : Frame) : ReceiverInv s.rx.sr (acceptedState s fr) :=
  (aroundEdge_sr_of_clockLine_kept false rfl).trans (bitsReceived_zero _ _).symm

/-- A state the receiver cannot tell apart from a busy one. -/
theorem receiverInv_of_kept {t : State} (hp : s.ph ≠ .idle) (hph : t.ph = s.ph) (hbit : t.bit = s.bit)
    (hfr : t.fr = s.fr) (hcfg : t.cfg = s.cfg) (hrx : t.rx = s.rx) (h : ReceiverInv sr₀ s) : ReceiverInv sr₀ t := by
  simp only [ReceiverInv, bitsReceived, wireFrame, hph, hbit, hfr, hcfg, hrx] at h ⊢
  cases hq : s.ph with
  | idle => exact absurd hq hp
  | lsettle | setup | chigh | clow | lhigh | lfinal => simpa only [hq] using h

theorem receiverInv_countDown (hp : s.ph ≠ .idle) (h : ReceiverInv sr₀ s) :
    ReceiverInv sr₀ (aroundEdge false s { s with cnt := s.cnt - 1 }) :=
  receiverInv_of_kept hp rfl rfl rfl rfl (receiverBoundary_self _ _ _) h

theorem receiverInv_beginBits (hp : s.ph = .lsettle) (hi : DriverInv s) (h : ReceiverInv sr₀ s) :
    ReceiverInv sr₀ (aroundEdge false s (beginBits s)) := by
  obtain ⟨_, _, _, _, hb⟩ := (driverInv_iff_of_lsettle hp).1 hi
  have hbit : s.bit.val = 0 := congrArg Fin.val hb
  simp only [ReceiverInv, hp] at h
  change (aroundEdge false s (beginBits s)).rx.sr = bitsReceived sr₀ s s.bit.val
  have hsr : (aroundEdge false s (beginBits s)).rx.sr = s.rx.sr := aroundEdge_sr_of_clockLine_kept false rfl
  rw [hsr, h, hbit]

/-- CLOCK rises but at bit 0: a receiver that shifts on the rising edge has every bit but that one. -/
theorem receiverInv_beginPulse (hp : s.ph = .setup) (hi : DriverInv s) (h : ReceiverInv sr₀ s) :
    ReceiverInv sr₀ (aroundEdge false s (beginPulse s)) := by
  obtain ⟨_, hclock, hdata, _⟩ := (driverInv_iff_of_setup hp).1 hi
  simp only [ReceiverInv, hp] at h
  change (aroundEdge false s (beginPulse s)).rx.sr = bitsReceived sr₀ s (s.bit.val + skippedBits s.rx.sample)
  by_cases hb : s.bit = 0
  · have hkept : (aroundEdge false s (beginPulse s)).rx.sr = s.rx.sr :=
      aroundEdge_sr_of_clockLine_kept false (by rw [hclock, if_pos hb]; rfl)
    have hzero : s.bit.val = 0 := congrArg Fin.val hb
    rw [hkept, h, hzero, bitsReceived_zero]
    cases hs : s.rx.sample with
    | fall => exact (bitsReceived_zero _ _).symm
    | rise => exact (bitsReceived_one_of_rise _ hs).symm
  · have hrise : edgeOf s.clockLine.level (beginPulse s).clockLine.level = some .rise := by
      rw [hclock, if_neg hb]; rfl
    cases hs : s.rx.sample with
    | fall => exact (aroundEdge_sr_of_no_sampleEdge false (by simp [hrise, hs])).trans h
    | rise =>
      have hone : 1 ≤ s.bit.val := Nat.pos_of_ne_zero fun h0 => hb (Fin.ext h0)
      exact aroundEdge_sr_of_bit false (by rw [hrise, hs]) rfl hdata s.bit.isLt (by rwa [hs]) h

/-- CLOCK falls: a receiver that shifts on the falling edge gets the bit. -/
theorem receiverInv_fallClock (hp : s.ph = .chigh) (hi : DriverInv s) (h : ReceiverInv sr₀ s) :
    ReceiverInv sr₀ (aroundEdge false s (fallClock s)) := by
  obtain ⟨_, hclock, hdata, _⟩ := (driverInv_iff_of_chigh hp).1 hi
  have hfall : edgeOf s.clockLine.level (fallClock s).clockLine.level = some .fall := by rw [hclock]; rfl
  simp only [ReceiverInv, hp] at h
  change (aroundEdge false s (fallClock s)).rx.sr = bitsReceived sr₀ s (s.bit.val + 1)
  cases hs : s.rx.sample with
  | fall =>
    rw [hs] at h
    exact aroundEdge_sr_of_bit false (by rw [hfall, hs]) rfl hdata s.bit.isLt (by rw [hs]; exact Nat.zero_le _) h
  | rise =>
    rw [hs] at h
    exact (aroundEdge_sr_of_no_sampleEdge false (by simp [hfall, hs])).trans h

/-- The next bit is set up with CLOCK low, or LATCH rises and a receiver that commits on the rising edge shows `SR`. -/
theorem receiverInv_nextBit (hp : s.ph = .clow) (hi : DriverInv s) (h : ReceiverInv sr₀ s) :
    ReceiverInv sr₀ (aroundEdge false s (nextBit s)) := by
  obtain ⟨hlatch, _, _, _⟩ := (driverInv_iff_of_clow hp).1 hi
  simp only [ReceiverInv, hp] at h
  have hclock : (nextBit s).clockLine = s.clockLine := by unfold nextBit; split <;> rfl
  have hsr : (aroundEdge false s (nextBit s)).rx.sr = bitsReceived sr₀ s (s.bit.val + 1) :=
    (aroundEdge_sr_of_clockLine_kept false hclock).trans h
  by_cases hb : s.bit.val < 15
  · rw [nextBit_of_lt hb] at hsr ⊢
    exact hsr
  · have hlast : s.bit.val = 15 := by omega
    rw [hlast] at h hsr
    rw [nextBit_of_last hb] at hsr ⊢
    refine ⟨hsr, fun hc => (aroundEdge_out_of_commitEdge false ?_).trans (h.trans hsr.symm)⟩
    rw [hlatch]
    exact congrArg some hc.symm

/-- LATCH falls, and a receiver that commits on the falling edge shows `SR`. -/
theorem receiverInv_fallLatch (hp : s.ph = .lhigh) (hi : DriverInv s) (h : ReceiverInv sr₀ s) :
    ReceiverInv sr₀ (aroundEdge false s (fallLatch s)) := by
  obtain ⟨hlatch, _⟩ := (driverInv_iff_of_lhigh hp).1 hi
  have hfall : edgeOf s.latchLine.level (fallLatch s).latchLine.level = some .fall := by rw [hlatch]; rfl
  simp only [ReceiverInv, hp] at h
  obtain ⟨hsr, hout⟩ := h
  have hsr' : (aroundEdge false s (fallLatch s)).rx.sr = s.rx.sr := aroundEdge_sr_of_clockLine_kept false rfl
  refine ⟨hsr'.trans hsr, Eq.trans ?_ hsr'.symm⟩
  cases hc : s.rx.commit with
  | fall => exact aroundEdge_out_of_commitEdge false (by rw [hfall, hc])
  | rise => exact (aroundEdge_out_of_no_commitEdge false (by simp [hfall, hc])).trans (hout hc)

/-- FINISH: CLOCK and LATCH rise. `OUT` is `SR` from before, whether it is committed again or kept. -/
theorem receiverInv_finishRender (hp : s.ph = .lfinal) (hi : DriverInv s) (h : ReceiverInv sr₀ s) :
    ReceiverInv sr₀ (aroundEdge false s (finishRender s)) := by
  obtain ⟨_, hclock, _⟩ := (driverInv_iff_of_lfinal hp).1 hi
  have hrise : edgeOf s.clockLine.level (finishRender s).clockLine.level = some .rise := by rw [hclock]; rfl
  simp only [ReceiverInv, hp] at h
  obtain ⟨hsr, hout⟩ := h
  have hout' : (aroundEdge false s (finishRender s)).rx.out = s.rx.sr := by
    by_cases hc : edgeOf s.latchLine.level (finishRender s).latchLine.level = some s.rx.commit
    · exact aroundEdge_out_of_commitEdge false hc
    · exact (aroundEdge_out_of_no_commitEdge false hc).trans hout
  refine ⟨hout'.trans hsr, fun hs => Eq.trans ?_ hout'.symm, ?_⟩
  · have hs' : s.rx.sample = .fall := hs
    exact aroundEdge_sr_of_no_sampleEdge false (by simp [hrise, hs'])
  · simp [unknownAfter, hp, finishRender]

theorem receiverInv_keptByBusyTicks (sr₀ : BitVec 16) : KeptByBusyTicks (ReceiverInv sr₀) := by
  intro s hi hp h
  refine ⟨fun _ => receiverInv_countDown hp h, fun _ => ?_⟩
  unfold advance
  split
  next hq => exact absurd hq hp
  next hq => exact receiverInv_beginBits hq hi h
  next hq => exact receiverInv_beginPulse hq hi h
  next hq => exact receiverInv_fallClock hq hi h
  next hq => exact receiverInv_nextBit hq hi h
  next hq => exact receiverInv_fallLatch hq hi h
  next hq => exact receiverInv_finishRender hq hi h

end ReceiverKept

/-- After the `D` busy ticks of an accepted frame the receiver shows what it received, and its contents are known. -/
theorem receiver_after_render {s : State} {fr : Frame} (h : AcceptsFrame s fr)
    (hu : UndisturbedFor s (1 + renderTicks s.cfg.config)) :
    ∃ t, Host.Core.run core (1 + renderTicks s.cfg.config) s = .next t ∧
      t.cfg = s.cfg ∧ wireFrame t = xorPol s.cfg.config.pol fr ∧ t.rx.sample = s.rx.sample ∧
      t.rx.out = bitsReceived s.rx.sr t 16 ∧ (t.rx.sample = .fall → t.rx.sr = t.rx.out) ∧ t.rxUnknown = false := by
  obtain ⟨t, hrun, hleft, hi, ⟨hfr, hcfg, hsample, _⟩, hrx⟩ :=
    run_of_acceptsFrame (receiverInv_keptByBusyTicks s.rx.sr) h (Nat.le_refl _) hu (receiverInv_acceptedState s fr)
  have hidle : t.ph = .idle := by
    by_contra hp
    have := ticksLeft_pos hi hp
    omega
  have hwire : wireFrame t = xorPol s.cfg.config.pol fr := by
    unfold wireFrame
    rw [hfr, hcfg]
    rfl
  simp only [ReceiverInv, hidle] at hrx
  exact ⟨t, hrun, hcfg, hwire, hsample, hrx⟩

/-- Settles O45: such a receiver has all bits of the frame. -/
theorem fallingEdgeReceiverShowsTheFrame : Obligations.FallingEdgeReceiverShowsTheFrame := by
  intro s fr h hu hs
  obtain ⟨t, hrun, hcfg, hwire, hsample, hout, hsr, hknown⟩ := receiver_after_render h hu
  have hfall : t.rx.sample = .fall := hsample.trans hs
  have hshown : t.rx.out = xorPol s.cfg.config.pol fr := by rw [hout, bitsReceived_all_of_fall _ hfall, hwire]
  have hdisplayed : t.displayed = fr := by
    simp [State.displayed, State.receiverContents, hknown, hcfg, hshown, xorPol_xorPol]
  exact ⟨t, hrun, (hsr hfall).trans hshown, (hsr hfall).symm, hknown, hdisplayed⟩

/-- Settles O46: such a receiver has the bits of the frame but the first, behind its old last bit. -/
theorem risingEdgeReceiverIsMisaligned : Obligations.RisingEdgeReceiverIsMisaligned := by
  intro s fr h hu hs
  obtain ⟨t, hrun, _, hwire, hsample, hout, _⟩ := receiver_after_render h hu
  exact ⟨t, hrun, by rw [hout, bitsReceived_all_of_rise _ (hsample.trans hs), hwire]⟩

end Sys2Proof.Machine
end

section
/-! PROOFS. Family 30_encoding.md: the command word and its decoder (R60, R61, R67, R68), the frame (R64), the assembler
(R69, R70). -/

namespace Sys2Proof

/-! ## The two fields of a command word (30_encoding.md R60) -/

/-- A word is its two fields, `OP` above `ARG`. -/
theorem opField_append_argField (w : CmdWord) : (opField w ++ argField w : BitVec (3 + 8)) = w :=
  BitVec.extractLsb'_append_extractLsb' (w := 3) (len := 8) (x := w)

theorem wordFields_encode : ∀ i : Instr, Laws.WordFields.Statement i
  | .blank => Laws.WordFields.blank
  | .dashes => Laws.WordFields.dashes
  | .err code => Laws.WordFields.err code
  | .int value => Laws.WordFields.int value
  | .anim idx => Laws.WordFields.anim idx

@[simp] theorem opField_encode (i : Instr) : opField (encode i) = opcode i := (wordFields_encode i).1

@[simp] theorem argField_encode (i : Instr) : argField (encode i) = operandField i := (wordFields_encode i).2

/-- The mask of R61's table keeps `OP` and clears `ARG`. -/
theorem and_opMask (w : CmdWord) : w &&& 0x700#11 = (opField w ++ 0#8 : BitVec (3 + 8)) := by
  calc w &&& 0x700#11
      = (opField w ++ argField w : BitVec (3 + 8)) &&& (BitVec.allOnes 3 ++ 0#8 : BitVec (3 + 8)) := by
        rw [opField_append_argField]; rfl
    _ = (opField w ++ 0#8 : BitVec (3 + 8)) := by
        rw [BitVec.and_append, BitVec.and_allOnes, BitVec.and_zero]

theorem opField_and_opMask (w : CmdWord) : opField (w &&& 0x700#11) = opField w := by
  rw [and_opMask]
  exact (Laws.WordFields.fields_of_append _ _).1

theorem argField_eq_setWidth (w : CmdWord) : argField w = w.setWidth 8 :=
  (BitVec.setWidth_eq_extractLsb' (by decide)).symm

/-- A word as a number: `OP` counts 256s (R60). -/
theorem toNat_eq_fields (w : CmdWord) : w.toNat = 256 * (opField w).toNat + (argField w).toNat := by
  have := w.isLt
  rw [opField, argField, BitVec.extractLsb'_toNat, BitVec.extractLsb'_toNat, Nat.shiftRight_eq_div_pow,
    Nat.shiftRight_zero]
  omega

theorem AnimCount.count_le (af : AnimCount) : af.count ≤ 12 := by cases af <;> decide

/-! ## The decoder, row by row (30_encoding.md R61) -/

/-- Every value of `OP` belongs to a command or is reserved. -/
theorem opField_cases (w : CmdWord) :
    opField w = 0b000#3 ∨ opField w = 0b001#3 ∨ opField w = 0b010#3 ∨ opField w = 0b011#3 ∨ opField w = 0b100#3 ∨
      5 ≤ (opField w).toNat := by
  bv_omega

section Rows

variable {w : CmdWord}

theorem decode_of_op_blank (h : opField w = 0b000#3) : decode w = .ok .blank := by simp [decode, h]

theorem decode_of_op_dashes (h : opField w = 0b001#3) : decode w = .ok .dashes := by simp [decode, h]

theorem decode_of_op_err (h : opField w = 0b010#3) : decode w = .ok (.err (argField w)) := by simp [decode, h]

theorem decode_of_op_int (h : opField w = 0b011#3) : decode w = .ok (.int (argField w)) := by simp [decode, h]

theorem decode_of_op_anim (h : opField w = 0b100#3) : decode w = .ok (.anim (argField w)) := by simp [decode, h]

theorem decode_of_op_reserved (h : 5 ≤ (opField w).toNat) : decode w = .error (.reservedOp (opField w)) := by
  have hne : ∀ op : BitVec 3, op.toNat < 5 → opField w ≠ op := fun op hop he => by rw [he] at h; omega
  simp [decode, hne]

/-- A word decodes to a command exactly when it has the command's `OP` and, where the command reads it, its `ARG`. -/
theorem decode_eq_ok_iff {i : Instr} :
    decode w = .ok i ↔ opField w = opcode i ∧ ((i = .blank ∨ i = .dashes) ∨ argField w = operandField i) := by
  constructor
  · intro hd
    rcases opField_cases w with h | h | h | h | h | h
    · rw [decode_of_op_blank h] at hd; cases hd; exact ⟨h, .inl (.inl rfl)⟩
    · rw [decode_of_op_dashes h] at hd; cases hd; exact ⟨h, .inl (.inr rfl)⟩
    · rw [decode_of_op_err h] at hd; cases hd; exact ⟨h, .inr rfl⟩
    · rw [decode_of_op_int h] at hd; cases hd; exact ⟨h, .inr rfl⟩
    · rw [decode_of_op_anim h] at hd; cases hd; exact ⟨h, .inr rfl⟩
    · rw [decode_of_op_reserved h] at hd; cases hd
  · rintro ⟨hop, harg⟩
    cases i with
    | blank => exact decode_of_op_blank hop
    | dashes => exact decode_of_op_dashes hop
    | err code => simpa [operandField, decode_of_op_err hop] using harg
    | int value => simpa [operandField, decode_of_op_int hop] using harg
    | anim idx => simpa [operandField, decode_of_op_anim hop] using harg

end Rows

@[simp] theorem decode_encode (i : Instr) : decode (encode i) = .ok i :=
  decode_eq_ok_iff.2 ⟨opField_encode i, .inr (argField_encode i)⟩

theorem decode_of_encode_eq {w : CmdWord} {i : Instr} (h : encode i = w) : decode w = .ok i := h ▸ decode_encode i

/-- Of the words of a command that ignores `ARG`, `encode` answers the one with `ARG = 0` (R68). -/
theorem encode_of_decode_ignoresArg {w : CmdWord} {i : Instr} (h : decode w = .ok i) (hi : i = .blank ∨ i = .dashes) :
    encode i = w &&& 0x700#11 := by
  obtain ⟨hop, _⟩ := decode_eq_ok_iff.1 h
  rw [and_opMask, hop]
  rcases hi with rfl | rfl <;> rfl

theorem encode_of_decode_readsArg {w : CmdWord} {i : Instr} (h : decode w = .ok i) (hi : ¬ (i = .blank ∨ i = .dashes)) :
    encode i = w := by
  obtain ⟨hop, harg⟩ := decode_eq_ok_iff.1 h
  rw [encode, ← hop, ← harg.resolve_left hi, opField_append_argField]

/-- Settles O1: a word that decodes to a command has the two fields of the command's word, but for an ignored `ARG`. -/
theorem decodeEncodeRoundTrip : Obligations.DecodeEncodeRoundTrip := by
  refine ⟨decode_encode, fun w i h => ?_⟩
  split
  · exact encode_of_decode_ignoresArg h ‹_›
  · exact encode_of_decode_readsArg h ‹_›

/-- Settles O3: each word is the word of its command, the last one has a reserved `OP`. -/
theorem writtenOutWordsDecode : Obligations.WrittenOutWordsDecode :=
  ⟨decode_of_encode_eq (by decide), decode_of_encode_eq (by decide), decode_of_encode_eq (by decide),
    decode_of_encode_eq (by decide), decode_of_encode_eq (by decide), decode_of_encode_eq (by decide),
    decode_of_op_reserved (by decide)⟩

end Sys2Proof

namespace Sys2Proof.Machine

/-! ## `Decode` with the operand checks (30_encoding.md R61) -/

section Checked

variable {af : AnimCount} {w : CmdWord} {i : Instr}

theorem decodeCommand_of_decode_error {e : DecodeError} (h : decode w = .error e) : decodeCommand af w = .error .op := by
  simp [decodeCommand, h]

theorem decodeCommand_of_select_ok {m : Selection af} (h : decode w = .ok i) (hs : select af i = .ok m) :
    decodeCommand af w = .ok i := by
  simp [decodeCommand, h, hs]

theorem decodeCommand_of_select_error {c : Cause} (h : decode w = .ok i) (hs : select af i = .error c) :
    decodeCommand af w = .error c := by
  simp [decodeCommand, h, hs]

theorem wellFormed_err_iff {code : Arg} : WellFormed af (.err code) = true ↔ zext8 code ≤ 99 := decide_eq_true_iff

theorem wellFormed_int_iff {value : Arg} :
    WellFormed af (.int value) = true ↔ -99 ≤ sext8 value ∧ sext8 value ≤ 99 := decide_eq_true_iff

theorem wellFormed_anim_iff {idx : Arg} : WellFormed af (.anim idx) = true ↔ zext8 idx < af.count := decide_eq_true_iff

/-- The word of a well-formed command passes the operand checks. -/
theorem decodeCommand_encode (h : WellFormed af i = true) : decodeCommand af (encode i) = .ok i := by
  obtain ⟨m, hm⟩ := (select_ok_iff_wellFormed af i).2 h
  exact decodeCommand_of_select_ok (decode_encode i) hm

theorem decodeCommand_of_op_blank (h : opField w = 0b000#3) : decodeCommand af w = .ok .blank :=
  decodeCommand_of_select_ok (decode_of_op_blank h) (select_blank af)

theorem decodeCommand_of_op_dashes (h : opField w = 0b001#3) : decodeCommand af w = .ok .dashes :=
  decodeCommand_of_select_ok (decode_of_op_dashes h) (select_dashes af)

theorem decodeCommand_of_op_err (h : opField w = 0b010#3) :
    decodeCommand af w = if 99 < (argField w).toNat then .error .code else .ok (.err (argField w)) := by
  split
  next hc => exact decodeCommand_of_select_error (decode_of_op_err h) (select_err_error af (Nat.not_le.2 hc))
  next hc => exact decodeCommand_of_select_ok (decode_of_op_err h) (select_err_ok af (Nat.not_lt.1 hc))

theorem decodeCommand_of_op_int (h : opField w = 0b011#3) :
    decodeCommand af w =
      if (argField w).toInt < -99 ∨ 99 < (argField w).toInt then .error .range else .ok (.int (argField w)) := by
  split
  next hc =>
    exact decodeCommand_of_select_error (decode_of_op_int h) (select_int_error af (by unfold sext8; omega))
  next hc =>
    exact decodeCommand_of_select_ok (decode_of_op_int h) (select_int_ok af (by unfold sext8; omega))

theorem decodeCommand_of_op_anim (h : opField w = 0b100#3) :
    decodeCommand af w = if af.count ≤ (argField w).toNat then .error .anim else .ok (.anim (argField w)) := by
  split
  next hc => exact decodeCommand_of_select_error (decode_of_op_anim h) (select_anim_error af (Nat.not_lt.2 hc))
  next hc => exact decodeCommand_of_select_ok (decode_of_op_anim h) (select_anim_ok af (Nat.not_le.1 hc))

theorem decodeCommand_of_op_reserved (h : 5 ≤ (opField w).toNat) : decodeCommand af w = .error .op :=
  decodeCommand_of_decode_error (decode_of_op_reserved h)

end Checked

/-- Settles O2: `w and 0x700` has the `OP` of `w`, and that names the row. -/
theorem decodeCommandMatchesTable : Obligations.DecodeCommandMatchesTable := by
  intro af w
  have hop : ∀ {m : CmdWord}, w &&& 0x700#11 = m → opField w = opField m := fun h => by rw [← h, opField_and_opMask]
  rw [← argField_eq_setWidth]
  refine ⟨fun h => decodeCommand_of_op_blank (hop h), fun h => decodeCommand_of_op_dashes (hop h),
    fun h => decodeCommand_of_op_err (hop h), fun h => decodeCommand_of_op_int (hop h),
    fun h => decodeCommand_of_op_anim (hop h), fun h => decodeCommand_of_op_reserved ?_, rfl, rfl, rfl, rfl⟩
  rcases h with h | h | h <;> rw [hop h] <;> decide

/-! ## The illegal words (30_encoding.md R67) -/

/-- The first word, as a number, that is rejected with a cause. -/
def firstRejected (af : AnimCount) : Cause → Nat
  | .range => 0x300 + 100
  | .op => 0x500
  | .code => 0x200 + 100
  | .anim => 0x400 + af.count

/-- The first word after those rejected with a cause. For cause 1 they end at the operand -100, which is 156. -/
def endRejected : Cause → Nat
  | .range => 0x300 + 157
  | .op => 0x800
  | .code => 0x300
  | .anim => 0x500

/-- The operands INT rejects are the bytes 100 to 156, those of 100 to 127 and of -128 to -100 (R62). -/
theorem toInt_out_of_range_iff (a : Arg) : (a.toInt < -99 ∨ 99 < a.toInt) ↔ 100 ≤ a.toNat ∧ a.toNat < 157 := by
  have := a.isLt
  rw [BitVec.toInt_eq_toNat_cond]
  split <;> omega

theorem ite_error_ok_eq_error_iff {p : Prop} [Decidable p] {c d : Cause} {i : Instr} :
    (if p then (Except.error d : Except Cause Instr) else .ok i) = .error c ↔ p ∧ d = c := by
  by_cases hp : p <;> simp [hp]

/-- The words rejected with one cause are an interval. -/
theorem decodeCommand_eq_error_iff (af : AnimCount) (w : CmdWord) (c : Cause) :
    decodeCommand af w = .error c ↔ firstRejected af c ≤ w.toNat ∧ w.toNat < endRejected c := by
  have haf := af.count_le
  have hw := toNat_eq_fields w
  have hop := (opField w).isLt
  have harg := (argField w).isLt
  rcases opField_cases w with h | h | h | h | h | h
  · rw [decodeCommand_of_op_blank h]
    cases c <;> simp [firstRejected, endRejected] <;> bv_omega
  · rw [decodeCommand_of_op_dashes h]
    cases c <;> simp [firstRejected, endRejected] <;> bv_omega
  · rw [decodeCommand_of_op_err h, ite_error_ok_eq_error_iff]
    cases c <;> simp [firstRejected, endRejected] <;> bv_omega
  · rw [decodeCommand_of_op_int h, ite_error_ok_eq_error_iff, toInt_out_of_range_iff]
    cases c <;> simp [firstRejected, endRejected] <;> bv_omega
  · rw [decodeCommand_of_op_anim h, ite_error_ok_eq_error_iff]
    cases c <;> simp [firstRejected, endRejected] <;> bv_omega
  · rw [decodeCommand_of_op_reserved h]
    cases c <;> simp [firstRejected, endRejected] <;> bv_omega

theorem endRejected_le (c : Cause) : endRejected c ≤ 2048 := by cases c <;> decide

/-- The numbers below `n` in an interval that ends by `n`. -/
theorem countP_range_interval {a b n : Nat} (hb : b ≤ n) :
    (List.range n).countP (fun k => decide (a ≤ k ∧ k < b)) = b - a := by
  have hI : (Finset.range n).filter (fun k => a ≤ k ∧ k < b) = Finset.Ico a b := by
    ext k
    simp only [Finset.mem_filter, Finset.mem_range, Finset.mem_Ico]
    omega
  calc (List.range n).countP (fun k => decide (a ≤ k ∧ k < b))
      = Nat.count (fun k => a ≤ k ∧ k < b) n := rfl
    _ = b - a := by rw [Nat.count_eq_card_filter_range, hI, Nat.card_Ico]

/-- How many of the 2048 words are rejected with one cause. -/
theorem countP_rejected (af : AnimCount) (c : Cause) :
    (List.range 2048).countP (fun k => decodeCommand af (BitVec.ofNat 11 k) = .error c) =
      endRejected c - firstRejected af c := by
  rw [← countP_range_interval (endRejected_le c)]
  refine List.countP_congr fun k hk => ?_
  have hk : k % 2048 = k := Nat.mod_eq_of_lt (List.mem_range.1 hk)
  simp [decodeCommand_eq_error_iff, hk]

theorem issueWord_of_decodeCommand_error {s : State} {w : CmdWord} {c : Cause} (hp : s.ph = .idle)
    (h : decodeCommand s.cfg.config.af w = .error c) : issueWord w s = .next (s.raiseReject c) := by
  rcases issueWord_cases w hp with ⟨c', hc, hi⟩ | ⟨i, _, hok, _⟩
  · rw [h] at hc; cases hc; exact hi
  · rw [h] at hok; cases hok

/-- Settles O4: the reject is all an illegal word does, and the words of a cause are an interval. -/
theorem illegalWordsAreRejected : Obligations.IllegalWordsAreRejected := by
  refine ⟨fun s w c hp h => issueWord_of_decodeCommand_error hp h, fun af => ?_⟩
  refine ⟨countP_rejected af .op, countP_rejected af .code, countP_rejected af .range, (countP_rejected af .anim).trans ?_⟩
  cases af <;> rfl

/-! ## The frame (30_encoding.md R64) -/

section Frame

variable (a b : Pattern) (m c : Bool)

theorem getLsbD_pack_zero : (pack a b m c).getLsbD 0 = c := by
  rw [pack, BitVec.getLsbD_append]
  simp

theorem getLsbD_pack_one : (pack a b m c).getLsbD 1 = m := by
  rw [pack, BitVec.getLsbD_append, BitVec.getLsbD_append]
  simp

theorem getLsbD_pack_two_add {i : Nat} (hi : i < 7) : (pack a b m c).getLsbD (2 + i) = b.getLsbD i := by
  rw [pack, BitVec.getLsbD_append, BitVec.getLsbD_append, BitVec.getLsbD_append, if_neg (by omega), if_neg (by omega),
    if_pos (by omega), show 2 + i - 1 - 1 = i by omega]

theorem getLsbD_pack_nine_add (i : Nat) : (pack a b m c).getLsbD (9 + i) = a.getLsbD i := by
  rw [pack, BitVec.getLsbD_append, BitVec.getLsbD_append, BitVec.getLsbD_append, if_neg (by omega), if_neg (by omega),
    if_neg (by omega), show 9 + i - 1 - 1 - 7 = i by omega]

theorem extractLsb'_pack_frameA : (pack a b m c).extractLsb' 9 7 = a := by
  apply BitVec.eq_of_getLsbD_eq
  intro i hi
  rw [BitVec.getLsbD_extractLsb', decide_eq_true hi, Bool.true_and, getLsbD_pack_nine_add]

theorem extractLsb'_pack_frameB : (pack a b m c).extractLsb' 2 7 = b := by
  apply BitVec.eq_of_getLsbD_eq
  intro i hi
  rw [BitVec.getLsbD_extractLsb', decide_eq_true hi, Bool.true_and, getLsbD_pack_two_add a b m c hi]

theorem getMsbD_pattern (p : Pattern) {k : Nat} (hk : k < 7) : p.getMsbD k = p.getLsbD (6 - k) := by
  rw [BitVec.getMsbD_eq_getLsbD, decide_eq_true hk, Bool.true_and]

theorem frameBit_pack_frameA {k : Nat} (hk : k < 7) : frameBit (pack a b m c) k = a.getMsbD k := by
  rw [frameBit, show 15 - k = 9 + (6 - k) by omega, getLsbD_pack_nine_add, getMsbD_pattern a hk]

theorem frameBit_pack_frameB {k : Nat} (hk : k < 7) : frameBit (pack a b m c) (7 + k) = b.getMsbD k := by
  rw [frameBit, show 15 - (7 + k) = 2 + (6 - k) by omega, getLsbD_pack_two_add a b m c (by omega), getMsbD_pattern b hk]

end Frame

/-- Settles O5: the parts lie where `pack` puts them, and transmission reads the frame from its top bit down. -/
theorem frameLayoutAndTransmissionOrder : Obligations.FrameLayoutAndTransmissionOrder := fun a b m c =>
  ⟨fun _ _ _ => rfl, extractLsb'_pack_frameA a b m c, extractLsb'_pack_frameB a b m c, getLsbD_pack_one a b m c,
    getLsbD_pack_zero a b m c, fun _ => frameBit_pack_frameA a b m c, fun _ => frameBit_pack_frameB a b m c,
    getLsbD_pack_one a b m c, getLsbD_pack_zero a b m c⟩

/-! ## The assembler (30_encoding.md R69, R70) -/

theorem assembleLine_of_bareCommand (af : AnimCount) {line m : List Char} {i : Instr}
    (ht : lineTokens (withoutComment line) [] = [m]) (hm : bareCommand m = some i) :
    assembleLine af line = some (.word (encode i)) := by
  simp [assembleLine, ht, hm]

/-- The commands a mnemonic with an operand can stand for: the operand is in its range. -/
theorem operandCommand_cases {af : AnimCount} {m arg : List Char} {i : Instr} (h : operandCommand af m arg = some i) :
    ∃ v, readInteger arg = some v ∧
      ((m = "ERR".toList ∧ (0 ≤ v ∧ v ≤ 99) ∧ i = .err (BitVec.ofInt 8 v)) ∨
        (m = "INT".toList ∧ (-99 ≤ v ∧ v ≤ 99) ∧ i = .int (BitVec.ofInt 8 v)) ∨
        (m = "ANIM".toList ∧ (0 ≤ v ∧ v < af.count) ∧ i = .anim (BitVec.ofInt 8 v))) := by
  unfold operandCommand at h
  split at h
  next => cases h
  next v hv =>
    refine ⟨v, hv, ?_⟩
    split_ifs at h with hE hr hI hr hA hr <;> cases h
    · exact .inl ⟨hE, hr, rfl⟩
    · exact .inr (.inl ⟨hI, hr, rfl⟩)
    · exact .inr (.inr ⟨hA, hr, rfl⟩)

theorem zext8_ofInt {v : Int} (h0 : 0 ≤ v) (h : v < 256) : (zext8 (BitVec.ofInt 8 v) : Int) = v := by
  rw [zext8, BitVec.toNat_ofInt]
  omega

theorem sext8_ofInt {v : Int} (hl : -128 ≤ v) (hu : v < 128) : sext8 (BitVec.ofInt 8 v) = v :=
  BitVec.toInt_ofInt_eq_self (by decide) hl hu

/-- Settles O6: each line is one mnemonic without an operand, another name of BLANK or DASHES. -/
theorem pseudoCommandsAssemble : Obligations.PseudoCommandsAssemble := fun af =>
  ⟨assembleLine_of_bareCommand af (m := "OFF".toList) (i := pseudoOff) (by decide) (by decide),
    assembleLine_of_bareCommand af (m := "UNAVAIL".toList) (i := pseudoUnavail) (by decide) (by decide),
    assembleLine_of_bareCommand af (m := "NOLINK".toList) (i := pseudoNolink) (by decide) (by decide)⟩

/-- Settles O7: the ranges of the assembler are those of the commands, and an operand in range survives the byte. -/
theorem assembledCommandsAreLegal : Obligations.AssembledCommandsAreLegal := by
  intro af m arg i h
  have haf := af.count_le
  obtain ⟨v, hv, ⟨hm, hr, rfl⟩ | ⟨hm, hr, rfl⟩ | ⟨hm, hr, rfl⟩⟩ := operandCommand_cases h
  · have hz := zext8_ofInt hr.1 (by omega)
    exact ⟨decodeCommand_encode (wellFormed_err_iff.2 (by omega)), v, hv, .inl ⟨hm, _, rfl, hz⟩⟩
  · have hz := sext8_ofInt (v := v) (by omega) (by omega)
    exact ⟨decodeCommand_encode (wellFormed_int_iff.2 (by omega)), v, hv, .inr (.inl ⟨hm, _, rfl, hz⟩)⟩
  · have hz := zext8_ofInt hr.1 (by omega)
    exact ⟨decodeCommand_encode (wellFormed_anim_iff.2 (by omega)), v, hv, .inr (.inr ⟨hm, _, rfl, hz⟩)⟩

end Sys2Proof.Machine
end

section
/-! PROOFS. Family 40_frame_encoder.md: the multiplexer and `Encode` (R82), the five commands on an idle block (R83 to R88),
what a frame tells of its command (R91). -/

namespace Sys2Proof.Machine

/-! ## The multiplexer and the table reads (40_frame_encoder.md R82) -/

theorem minusFlag_eq_true_iff {v : Int} : minusFlag v = true ↔ v < 0 := decide_eq_true_iff

/-- `Pack(Encode(c))` reads each table once, at the index of its position. -/
theorem encodeFrame_eq_pack (c : Config) (m : Selection c.af) :
    encodeFrame c m = pack (c.dt1[m.idxA.val]) (c.dt2[m.idxB.val]) m.minus m.celsius := rfl

/-- Settles O8: the selection of each command, and `Encode` by its definition. -/
theorem multiplexerArms : Obligations.MultiplexerArms := fun af =>
  ⟨⟨_, select_blank af, rfl, rfl, rfl, rfl⟩,
    ⟨_, select_dashes af, rfl, rfl, rfl, rfl⟩,
    fun _ h => ⟨_, select_err_ok af h, rfl, rfl, rfl, rfl⟩,
    fun _ hl hu => ⟨_, select_int_ok af ⟨hl, hu⟩, suppressedTens_val _ _, rfl, minusFlag_eq_true_iff, rfl⟩,
    fun _ h => ⟨_, select_anim_ok af h, rfl, rfl, rfl, rfl⟩,
    encodeFrame_eq_pack⟩

/-! ## The commands on an idle block (40_frame_encoder.md R83 to R88) -/

/-- An accepted command does the three things of R88. The selection is over any `c` that is the state's `Config`, so that one
selection serves all states with that `Config`. -/
theorem exec_accepts {i : Instr} {s : State} {c : LegalConfig} {m : Selection c.config.af} {fr : Frame} (hp : s.ph = .idle)
    (hc : s.cfg = c) (h : select c.config.af i = .ok m) (hfr : encodeFrame c.config m = fr) :
    exec i s = .next
      { s with fr := fr, latchLine := .low, ph := .lsettle, cnt := s.cfg.config.tLSettle, bit := 0 } := by
  subst hc hfr
  exact exec_of_select_ok hp h

/-- Both blank entries are 0 in a legal `Config` (00_scope.md R5), so the frame is. -/
theorem encodeFrame_blank (c : LegalConfig) :
    encodeFrame c.config ⟨blankIndex, blankIndex, false, false⟩ = 0x0000#16 := by
  rw [encodeFrame, tableRead_blank_dt1, tableRead_blank_dt2]
  exact (by decide : pack 0#7 0#7 false false = 0x0000#16)

/-- Position 1 is blank for the tens digit 0 and shows any other (R86). -/
theorem tableRead_suppressedTens (c : LegalConfig) {t : Nat} (h : t ≤ 9) :
    tableRead c.config.dt1 (suppressedTens t h) = if t = 0 then 0#7 else tableRead c.config.dt1 (numeralIndex t h) := by
  rw [suppressedTens, apply_ite (tableRead c.config.dt1), tableRead_blank_dt1]

/-- Settles O9: BLANK selects the blank entry of both tables. -/
theorem blankCompletes : Obligations.BlankCompletes := fun s hp =>
  exec_accepts hp rfl (select_blank _) (encodeFrame_blank s.cfg)

/-- Settles O10: DASHES selects the minus glyph in both tables. -/
theorem dashesCompletes : Obligations.DashesCompletes := fun _ hp =>
  exec_accepts hp rfl (select_dashes _) rfl

/-- Settles O11: a code up to 99 selects the numerals of its two digits. -/
theorem errCompletes : Obligations.ErrCompletes := fun _ _ h hp =>
  exec_accepts hp rfl (select_err_ok _ h) rfl

/-- Settles O12: only position 1 depends on whether its digit is 0. -/
theorem intCompletes : Obligations.IntCompletes := by
  intro value s hl hu hp
  refine exec_accepts hp rfl (select_int_ok _ ⟨hl, hu⟩) ?_
  rw [encodeFrame, tableRead_suppressedTens]
  rfl

/-- Settles O13: an index below `AF` selects its frame in both tables. -/
theorem animCompletes : Obligations.AnimCompletes := fun _ _ h hp =>
  exec_accepts hp rfl (select_anim_ok _ h) rfl

/-- Settles O14: an accepted command is the start of a render, a rejected one writes the reject record only. -/
theorem acceptedCommandDoesThreeThings : Obligations.AcceptedCommandDoesThreeThings := by
  intro i s hp
  refine ⟨fun m h => exec_accepts hp rfl h rfl, fun c h => ⟨_, exec_of_select_error hp h, ?_⟩⟩
  simp [hp]

/-- Settles O15: a command changes nothing (busy), the reject record (rejected), or what a render starts with (accepted). -/
theorem commandFrame : Obligations.CommandFrame := by
  intro i s t h
  rcases exec_cases i s with ⟨_, he⟩ | ⟨_, c, _, he⟩ | ⟨_, m, _, he⟩ <;> rw [he] at h <;> cases h <;> simp

/-- Settles O16: a command leaves the state, takes its reject or starts a render, and each is a next state. -/
theorem noCommandStops : Obligations.NoCommandStops := exec_answers_next

/-- A command rejected on an idle block with no reject recorded records its cause (60_exceptions.md R134). -/
theorem exec_rejects {i : Instr} {s : State} {c : Cause} (hp : s.ph = .idle) (hf : s.fault = false)
    (h : select s.cfg.config.af i = .error c) : exec i s = .next { s with fault := true, cause := c.number } := by
  rw [exec_of_select_error hp h, State.raiseReject, if_neg (by simp [hf])]

/-- Settles O22: each operand fails the check of its command. -/
theorem illegalOperandsReject : Obligations.IllegalOperandsReject := fun _ hp hf =>
  ⟨fun _ h => exec_rejects hp hf (select_err_error _ (Nat.not_le.2 h)),
    fun _ h => exec_rejects hp hf (select_int_error _ (by unfold sext8; omega)),
    fun _ h => exec_rejects hp hf (select_anim_error _ (Nat.not_lt.2 h))⟩

/-- Settles O17: with one `Config` for both states, what is selected is selected in both. -/
theorem encoderIsPure : Obligations.EncoderIsPure := by
  intro i s s' t t' hc hp hp' ht ht'
  cases hsel : select s'.cfg.config.af i with
  | error k =>
    rw [exec_of_select_error hp (by rw [hc, hsel])] at ht
    rw [exec_of_select_error hp' hsel] at ht'
    cases ht
    cases ht'
    refine ⟨by simp [hp, hp'], by simp [hp], fun _ hf hk => ?_⟩
    simp [hf, hk]
  | ok m =>
    rw [exec_accepts hp hc hsel rfl] at ht
    rw [exec_accepts hp' rfl hsel rfl] at ht'
    cases ht
    cases ht'
    simp [hc]

/-! ## What a frame tells of its command (40_frame_encoder.md R91) -/

/-- `Pack` loses nothing (30_encoding.md R64). -/
theorem pack_inj {a b a' b' : Pattern} {m c m' c' : Bool} (h : pack a b m c = pack a' b' m' c') :
    a = a' ∧ b = b' ∧ m = m' ∧ c = c' := by
  refine ⟨?_, ?_, ?_, ?_⟩
  · rw [← extractLsb'_pack_frameA a b m c, h, extractLsb'_pack_frameA]
  · rw [← extractLsb'_pack_frameB a b m c, h, extractLsb'_pack_frameB]
  · rw [← getLsbD_pack_one a b m c, h, getLsbD_pack_one]
  · rw [← getLsbD_pack_zero a b m c, h, getLsbD_pack_zero]

theorem eq_of_digits_eq {n k : Nat} (ht : tensDigit n = tensDigit k) (ho : onesDigit n = onesDigit k) : n = k := by
  unfold tensDigit at ht
  unfold onesDigit at ho
  omega

/-- An operand of INT is its sign and its two digits. -/
theorem eq_of_sign_and_digits_eq {a b : Arg} (hs : sext8 a < 0 ↔ sext8 b < 0)
    (ht : tensDigit (sext8 a).natAbs = tensDigit (sext8 b).natAbs)
    (ho : onesDigit (sext8 a).natAbs = onesDigit (sext8 b).natAbs) : a = b := by
  have hn := eq_of_digits_eq ht ho
  exact BitVec.eq_of_toInt_eq (show sext8 a = sext8 b by omega)

theorem le_of_select_err_ok {af : AnimCount} {a : Arg} {m : Selection af} (h : select af (.err a) = .ok m) :
    zext8 a ≤ 99 :=
  wellFormed_err_iff.1 ((select_ok_iff_wellFormed af _).1 ⟨m, h⟩)

theorem mem_range_of_select_int_ok {af : AnimCount} {a : Arg} {m : Selection af} (h : select af (.int a) = .ok m) :
    -99 ≤ sext8 a ∧ sext8 a ≤ 99 :=
  wellFormed_int_iff.1 ((select_ok_iff_wellFormed af _).1 ⟨m, h⟩)

section Recovered

variable {c : LegalConfig} {a b : Arg} {m n : Selection c.config.af}

/-- The numerals of each table are different, so equal frames of ERR show equal digits. -/
theorem digits_eq_of_err_frames_eq (ha : select c.config.af (.err a) = .ok m) (hb : select c.config.af (.err b) = .ok n)
    (h : encodeFrame c.config m = encodeFrame c.config n) :
    tensDigit (zext8 a) = tensDigit (zext8 b) ∧ onesDigit (zext8 a) = onesDigit (zext8 b) := by
  have hra := le_of_select_err_ok ha
  have hrb := le_of_select_err_ok hb
  rw [select_err_ok _ hra] at ha
  rw [select_err_ok _ hrb] at hb
  cases ha
  cases hb
  obtain ⟨hA, hB, _, _⟩ := pack_inj h
  exact ⟨tableRead_numeral_dt1_inj c (tensDigit_le hra) (tensDigit_le hrb) hA,
    tableRead_numeral_dt2_inj c (onesDigit_le _) (onesDigit_le _) hB⟩

/-- Equal frames of INT have equal signs, ones digits and patterns in position 1. -/
theorem parts_eq_of_int_frames_eq (ha : select c.config.af (.int a) = .ok m) (hb : select c.config.af (.int b) = .ok n)
    (h : encodeFrame c.config m = encodeFrame c.config n) :
    (sext8 a < 0 ↔ sext8 b < 0) ∧ onesDigit (sext8 a).natAbs = onesDigit (sext8 b).natAbs ∧
      ∃ hta htb, tableRead c.config.dt1 (suppressedTens (tensDigit (sext8 a).natAbs) hta) =
        tableRead c.config.dt1 (suppressedTens (tensDigit (sext8 b).natAbs) htb) := by
  have hra := mem_range_of_select_int_ok ha
  have hrb := mem_range_of_select_int_ok hb
  rw [select_int_ok _ hra] at ha
  rw [select_int_ok _ hrb] at hb
  cases ha
  cases hb
  obtain ⟨hA, hB, hm, _⟩ := pack_inj h
  exact ⟨decide_eq_decide.1 hm, tableRead_numeral_dt2_inj c (onesDigit_le _) (onesDigit_le _) hB, _, _, hA⟩

end Recovered

/-- Two tens digits that are shown are told apart. -/
theorem tens_eq_of_shown {c : LegalConfig} {t u : Nat} {ht : t ≤ 9} {hu : u ≤ 9} (ht0 : t ≠ 0) (hu0 : u ≠ 0)
    (h : tableRead c.config.dt1 (suppressedTens t ht) = tableRead c.config.dt1 (suppressedTens u hu)) : t = u := by
  rw [tableRead_suppressedTens, tableRead_suppressedTens, if_neg ht0, if_neg hu0] at h
  exact tableRead_numeral_dt1_inj c ht hu h

/-- Where no numeral 1 to 9 of `DT1` is blank, a blank position 1 means that the tens digit is 0. -/
theorem suppressedTens_blank_iff {c : LegalConfig} (hc : ∀ d : Fin 10, d ≠ 0 → c.config.dt1[d.val] ≠ 0#7) {t : Nat}
    (ht : t ≤ 9) : tableRead c.config.dt1 (suppressedTens t ht) = 0#7 ↔ t = 0 := by
  rw [tableRead_suppressedTens]
  split
  next h0 => exact iff_of_true rfl h0
  next h0 => exact iff_of_false (hc ⟨t, by omega⟩ (mt Fin.val_eq_of_eq h0)) h0

/-- Settles O18: both digits of a code are shown. -/
theorem errCodesAreRecovered : Obligations.ErrCodesAreRecovered := by
  intro c a b m n ha hb h
  obtain ⟨ht, ho⟩ := digits_eq_of_err_frames_eq ha hb h
  exact BitVec.eq_of_toNat_eq (eq_of_digits_eq ht ho)

/-- Settles O19: what is left open is whether a blank position 1 is a tens digit 0 or a numeral that looks blank. -/
theorem intValuesAreRecovered : Obligations.IntValuesAreRecovered := by
  intro c a b m n ha hb h
  obtain ⟨hs, ho, hta, htb, hA⟩ := parts_eq_of_int_frames_eq ha hb h
  have of_shown (hta0 : tensDigit (sext8 a).natAbs ≠ 0) (htb0 : tensDigit (sext8 b).natAbs ≠ 0) : a = b :=
    eq_of_sign_and_digits_eq hs (tens_eq_of_shown hta0 htb0 hA) ho
  refine ⟨hs, ho, of_shown, fun hc => ?_⟩
  have h0 : tensDigit (sext8 a).natAbs = 0 ↔ tensDigit (sext8 b).natAbs = 0 := by
    rw [← suppressedTens_blank_iff hc hta, hA, suppressedTens_blank_iff hc htb]
  by_cases ht : tensDigit (sext8 a).natAbs = 0
  · exact eq_of_sign_and_digits_eq hs (ht.trans (h0.1 ht).symm) ho
  · exact of_shown ht (fun hu => ht (h0.2 hu))

end Sys2Proof.Machine
end

section
/-! PROOFS. Family 41_serial_line_driver.md: the tick rule (R108), what a busy block looks at (R112), the polarity (R102), and
a whole render: its timeline (R109), its trace (R107) and its end (R112). -/

namespace Sys2Proof.Machine

open Safety

/-! ## The cases of the tick rule (41_serial_line_driver.md R108) -/

section TickRule

variable (p : PortInput) {s : State}

theorem driverStep_of_rst (s : State) (hr : p.rst = true) : driverStep p s = .next (resetDriver s) := if_pos hr

theorem driverStep_of_busy (hr : p.rst = false) (hp : s.ph ≠ .idle) : driverStep p s = runSequencer s := by
  simp [driverStep, hr, hp]

theorem driverStep_of_no_command (hr : p.rst = false) (hp : s.ph = .idle) (hv : p.cmdValid = false) :
    driverStep p s = .next s := by
  simp [driverStep, hr, hp, hv]

theorem driverStep_of_command (hr : p.rst = false) (hp : s.ph = .idle) (hv : p.cmdValid = true) :
    driverStep p s = issueWord p.cmd s := by
  simp [driverStep, hr, hp, hv]

theorem runSequencer_countDown (hc : 1 < s.cnt) : runSequencer s = .next { s with cnt := s.cnt - 1 } := by
  rcases runSequencer_cases s with ⟨h, _⟩ | ⟨h, _⟩ | ⟨_, h⟩
  · omega
  · omega
  · exact h

theorem runSequencer_advance (hc : s.cnt = 1) : runSequencer s = .next (advance s) := by
  rcases runSequencer_cases s with ⟨h, _⟩ | ⟨_, h⟩ | ⟨h, _⟩
  · omega
  · exact h
  · omega

end TickRule

theorem advance_of_lsettle {s : State} (h : s.ph = .lsettle) : advance s = beginBits s := by simp [advance, h]

theorem advance_of_setup {s : State} (h : s.ph = .setup) : advance s = beginPulse s := by simp [advance, h]

theorem advance_of_chigh {s : State} (h : s.ph = .chigh) : advance s = fallClock s := by simp [advance, h]

theorem advance_of_clow {s : State} (h : s.ph = .clow) : advance s = nextBit s := by simp [advance, h]

theorem advance_of_lhigh {s : State} (h : s.ph = .lhigh) : advance s = fallLatch s := by simp [advance, h]

theorem advance_of_lfinal {s : State} (h : s.ph = .lfinal) : advance s = finishRender s := by simp [advance, h]

/-- `raise Reject(c)` as R108 writes it. -/
theorem raiseReject_eq_ite (s : State) (c : Cause) :
    s.raiseReject c = if s.fault = false then { s with fault := true, cause := c.number } else s := by
  unfold State.raiseReject
  cases s.fault <;> rfl

/-- A legal word to an idle block starts the render of its frame. -/
theorem issueWord_of_decodeCommand_ok {s : State} {w : CmdWord} {i : Instr} (hp : s.ph = .idle)
    (h : decodeCommand s.cfg.config.af w = .ok i) :
    ∃ m, select s.cfg.config.af i = .ok m ∧ issueWord w s = .next (s.startRender (encodeFrame s.cfg.config m)) := by
  rcases issueWord_cases w hp with ⟨c, hc, _⟩ | ⟨j, m, hj, _, hm, hi⟩
  · rw [h] at hc; cases hc
  · rw [h] at hj; cases hj; exact ⟨m, hm, hi⟩

/-- Settles O28: the cases of the driver's step, and ADVANCE phase by phase. -/
theorem driverStepFollowsTheTickRule : Obligations.DriverStepFollowsTheTickRule := by
  intro p s
  have advanced {q : Phase} (hr : p.rst = false) (hp : s.ph = q) (hq : q ≠ .idle) (hc : s.cnt = 1) :
      driverStep p s = .next (advance s) := by
    rw [driverStep_of_busy p hr (by rwa [hp]), runSequencer_advance hc]
  refine ⟨fun hr => ⟨_, driverStep_of_rst p s hr⟩, driverStep_of_no_command p, fun hr hp hv c hd => ?_,
    fun hr hp hv i hd => ?_, fun hr hp hc => ?_, fun hr hp hc => ?_, fun hr hp hc => ?_, fun hr hp hc => ?_,
    fun hr hp hc hb => ?_, fun hr hp hc hb => ?_, fun hr hp hc => ?_, fun hr hp hc => ?_⟩
  · rw [driverStep_of_command p hr hp hv, issueWord_of_decodeCommand_error hp hd, raiseReject_eq_ite]
  · obtain ⟨m, hm, hi⟩ := issueWord_of_decodeCommand_ok hp hd
    exact ⟨m, hm, (driverStep_of_command p hr hp hv).trans hi⟩
  · rw [driverStep_of_busy p hr hp, runSequencer_countDown hc]
  · rw [advanced hr hp (by decide) hc, advance_of_lsettle hp]; rfl
  · rw [advanced hr hp (by decide) hc, advance_of_setup hp]; rfl
  · rw [advanced hr hp (by decide) hc, advance_of_chigh hp]; rfl
  · have hbit : (⟨s.bit.val + 1, by omega⟩ : Fin 16) = s.bit + 1 :=
      Fin.ext (Fin.val_add_one_of_lt' (by omega)).symm
    rw [advanced hr hp (by decide) hc, advance_of_clow hp, nextBit_of_lt hb, hbit]
    rfl
  · rw [advanced hr hp (by decide) hc, advance_of_clow hp, nextBit_of_last (by omega)]; rfl
  · rw [advanced hr hp (by decide) hc, advance_of_lhigh hp]; rfl
  · rw [advanced hr hp (by decide) hc, advance_of_lfinal hp]; rfl

/-- Settles O23: a busy block transfers no word, and its sequencer reads no input. -/
theorem busyBlockLooksAtResetOnly : Obligations.BusyBlockLooksAtResetOnly := by
  intro s hp
  refine ⟨fun i => exec_of_busy i hp, fun p q hr ht => ?_⟩
  rw [edgeStep_eq, edgeStep_eq, hr, ht]
  cases hq : q.rst
  · rw [driverStep_of_busy p (hr.trans hq) hp, driverStep_of_busy q hq hp]
  · rw [driverStep_of_rst p s (hr.trans hq), driverStep_of_rst q s hq]

/-! ## The polarity (41_serial_line_driver.md R102) -/

/-- The state with another polarity flag, and DATA in the Line State `d`. -/
def State.withPolarity (s : State) (pol : Bool) (d : LineState) : State :=
  { s with cfg := s.cfg.withPol pol, dataLine := d }

section Polarity

variable (s : State) (pol : Bool) (d : LineState)

theorem nextBit_withPolarity : ∃ d', nextBit (s.withPolarity pol d) = (nextBit s).withPolarity pol d' := by
  by_cases hb : s.bit.val < 15
  · rw [nextBit_of_lt hb, nextBit_of_lt (s := s.withPolarity pol d) hb]
    exact ⟨_, rfl⟩
  · rw [nextBit_of_last hb, nextBit_of_last (s := s.withPolarity pol d) hb]
    exact ⟨d, rfl⟩

theorem advance_withPolarity : ∃ d', advance (s.withPolarity pol d) = (advance s).withPolarity pol d' := by
  have hp : (s.withPolarity pol d).ph = s.ph := rfl
  unfold advance
  rw [hp]
  cases s.ph with
  | clow => exact nextBit_withPolarity s pol d
  | idle | lsettle | setup | chigh | lhigh | lfinal => exact ⟨_, rfl⟩

theorem raiseReject_withPolarity (c : Cause) :
    (s.withPolarity pol d).raiseReject c = (s.raiseReject c).withPolarity pol d := by
  rw [State.raiseReject, State.raiseReject, apply_ite fun u : State => u.withPolarity pol d]
  rfl

theorem runSequencer_withPolarity {t : State} (h : runSequencer s = .next t) :
    ∃ d', runSequencer (s.withPolarity pol d) = .next (t.withPolarity pol d') := by
  rcases runSequencer_cases s with ⟨_, hq⟩ | ⟨hc, hq⟩ | ⟨hc, hq⟩ <;> rw [hq] at h <;> cases h
  · obtain ⟨d', hd⟩ := advance_withPolarity s pol d
    exact ⟨d', (runSequencer_advance (s := s.withPolarity pol d) hc).trans (congrArg _ hd)⟩
  · exact ⟨d, runSequencer_countDown hc⟩

theorem issueWord_withPolarity {w : CmdWord} {t : State} (hp : s.ph = .idle) (h : issueWord w s = .next t) :
    issueWord w (s.withPolarity pol d) = .next (t.withPolarity pol d) := by
  have hp' : (s.withPolarity pol d).ph = .idle := hp
  rcases issueWord_cases w hp with ⟨c, hc, hi⟩ | ⟨i, m, _, hd, hm, hi⟩ <;> rw [hi] at h <;> cases h
  · rw [issueWord_of_decodeCommand_error hp' hc, raiseReject_withPolarity]
  · rw [issueWord_of_decode_ok _ hd, exec_of_select_ok hp' hm]
    rfl

/-- With another polarity the driver does the same, but to DATA. -/
theorem driverStep_withPolarity {p : PortInput} {t : State} (h : driverStep p s = .next t) :
    ∃ d', driverStep p (s.withPolarity pol d) = .next (t.withPolarity pol d') := by
  rcases driverStep_cases p s with ⟨hr, he⟩ | ⟨hr, hp, hv, he⟩ | ⟨hr, hp, hv, he⟩ | ⟨hr, hp, he⟩ <;> rw [he] at h
  · cases h
    exact ⟨.z, driverStep_of_rst p _ hr⟩
  · cases h
    exact ⟨d, driverStep_of_no_command p hr hp hv⟩
  · refine ⟨d, Eq.trans ?_ (issueWord_withPolarity s pol d hp h)⟩
    exact driverStep_of_command p hr hp hv
  · obtain ⟨d', hd⟩ := runSequencer_withPolarity s pol d h
    exact ⟨d', Eq.trans (driverStep_of_busy p hr hp) hd⟩

theorem edgeStep_withPolarity {p : PortInput} {t : State} (h : edgeStep p s = .next t) :
    ∃ d', edgeStep p (s.withPolarity pol d) = .next (t.withPolarity pol d') := by
  rw [edgeStep_eq] at h ⊢
  split at h
  next he =>
    rw [if_pos he]
    exact driverStep_withPolarity s pol d h
  next he =>
    cases h
    exact ⟨d, if_neg he⟩

end Polarity

/-- Settles O40: the driver's next states differ in DATA only, and what goes on around the driver reaches no field named. -/
theorem polarityTouchesDataOnly : Obligations.PolarityTouchesDataOnly := by
  refine ⟨⟨rfl, rfl, rfl, rfl⟩, fun s t pol h => ?_⟩
  obtain ⟨u, hu, rfl⟩ := (step_next_iff s t).1 h
  obtain ⟨d, hd⟩ := edgeStep_withPolarity s pol s.dataLine hu
  exact ⟨_, (step_next_iff _ _).2 ⟨_, hd, rfl⟩, rfl, rfl, rfl, rfl, rfl, rfl, rfl, rfl⟩

/-! ## The timeline (41_serial_line_driver.md R109) -/

section Timeline

variable {c : Config} {k r cnt : Nat}

theorem placeAt_lsettle (h : cnt + r = c.tLSettle) (hc : 1 ≤ cnt) : placeAt c r = ⟨.lsettle, 0, cnt⟩ := by
  rw [placeAt, if_pos (by omega), ← h, Nat.add_sub_cancel]

theorem placeAt_inBit (hk : k < 16) (hr : r < bitPeriod c) :
    placeAt c (c.tLSettle + (k * bitPeriod c + r)) = placeInBit c k r := by
  have hlt : k * bitPeriod c + r < 16 * bitPeriod c :=
    calc k * bitPeriod c + r < (k + 1) * bitPeriod c := by rw [Nat.add_one_mul]; omega
      _ ≤ 16 * bitPeriod c := Nat.mul_le_mul_right _ hk
  have hdiv : (k * bitPeriod c + r) / bitPeriod c = k := by
    rw [Nat.mul_comm, Nat.mul_add_div (by omega), Nat.div_eq_of_lt hr, Nat.add_zero]
  rw [placeAt, if_neg (by omega), if_pos (by omega), Nat.add_sub_cancel_left, hdiv, Nat.mul_add_mod',
    Nat.mod_eq_of_lt hr]

theorem placeInBit_setup (h : cnt + r = c.tSetup) (hc : 1 ≤ cnt) : placeInBit c k r = ⟨.setup, k, cnt⟩ := by
  rw [placeInBit, if_pos (by omega), ← h, Nat.add_sub_cancel]

theorem placeInBit_chigh (h : cnt + r = c.tHalf) (hc : 1 ≤ cnt) :
    placeInBit c k (c.tSetup + r) = ⟨.chigh, k, cnt⟩ := by
  rw [placeInBit, if_neg (by omega), if_pos (by omega), show c.tSetup + c.tHalf - (c.tSetup + r) = cnt by omega]

theorem placeInBit_clow (h : cnt + r = c.tHalf) : placeInBit c k (c.tSetup + c.tHalf + r) = ⟨.clow, k, cnt⟩ := by
  rw [placeInBit, if_neg (by omega), if_neg (by omega),
    show bitPeriod c - (c.tSetup + c.tHalf + r) = cnt by unfold bitPeriod; omega]

theorem placeAt_inLatch (u : Nat) : placeAt c (c.tLSettle + (16 * bitPeriod c + u)) = placeInLatch c u := by
  rw [placeAt, if_neg (by omega), if_neg (by omega), Nat.add_sub_cancel_left, Nat.add_sub_cancel_left]

theorem placeInLatch_lhigh (h : cnt + r = c.tLHigh) (hc : 1 ≤ cnt) : placeInLatch c r = ⟨.lhigh, 0, cnt⟩ := by
  rw [placeInLatch, if_pos (by omega), ← h, Nat.add_sub_cancel]

theorem placeInLatch_lfinal (h : cnt + r = c.tLFinal) (hc : 1 ≤ cnt) :
    placeInLatch c (c.tLHigh + r) = ⟨.lfinal, 0, cnt⟩ := by
  rw [placeInLatch, if_neg (by omega), if_pos (by omega), show c.tLHigh + c.tLFinal - (c.tLHigh + r) = cnt by omega]

theorem placeInLatch_idle : placeInLatch c (c.tLHigh + c.tLFinal) = ⟨.idle, 0, 0⟩ := by
  rw [placeInLatch, if_neg (by omega), if_neg (Nat.lt_irrefl _)]

/-- A render is the bits below `k`, the bit `k` and what comes after it. -/
theorem renderTicks_eq_split (c : Config) (hk : k < 16) :
    renderTicks c = c.tLSettle + k * bitPeriod c + bitPeriod c + ticksAfterBit c k := by
  have : 16 * bitPeriod c = (k + 1 + (15 - k)) * bitPeriod c := by congr 1; omega
  rw [Nat.add_mul, Nat.add_one_mul k] at this
  unfold renderTicks ticksAfterBit
  omega

end Timeline

/-- Where the sequencer stands. -/
def State.place (s : State) : Place := ⟨s.ph, s.bit.val, s.cnt⟩

/-- From a tick `r` of the period of its bit on, the ticks left are those of the period and of what comes after it. -/
theorem exists_placeAt_of_inBit {s : State} {r : Nat} (hr : r < bitPeriod s.cfg.config)
    (hplace : placeInBit s.cfg.config s.bit.val r = s.place)
    (hleft : r + ticksLeft s = bitPeriod s.cfg.config + ticksAfterBit s.cfg.config s.bit.val) :
    ∃ j, j + ticksLeft s = renderTicks s.cfg.config ∧ placeAt s.cfg.config j = s.place := by
  refine ⟨_, ?_, (placeAt_inBit s.bit.isLt hr).trans hplace⟩
  rw [renderTicks_eq_split _ s.bit.isLt]
  omega

/-- A state of the table R34 stands where the timeline says, as many ticks before its end as it has left. -/
theorem exists_placeAt_of_driverInv {s : State} (hi : DriverInv s) :
    ∃ j, j + ticksLeft s = renderTicks s.cfg.config ∧ placeAt s.cfg.config j = s.place := by
  cases hp : s.ph with
  | idle =>
    obtain ⟨_, hb, hc, _⟩ := (driverInv_iff_of_idle hp).1 hi
    refine ⟨_, ?_, (placeAt_inLatch _).trans (placeInLatch_idle.trans ?_)⟩
    · simp only [ticksLeft, hp, renderTicks]; omega
    · simp [State.place, hp, hb, hc]
  | lsettle =>
    obtain ⟨_, _, _, ⟨hc, hn⟩, hb⟩ := (driverInv_iff_of_lsettle hp).1 hi
    obtain ⟨r, hr⟩ := Nat.exists_eq_add_of_le hn
    refine ⟨r, ?_, (placeAt_lsettle hr.symm hc).trans ?_⟩
    · simp only [ticksLeft, hp, renderTicks_eq]; omega
    · simp [State.place, hp, hb]
  | setup =>
    obtain ⟨_, _, _, hc, hn⟩ := (driverInv_iff_of_setup hp).1 hi
    obtain ⟨r, hr⟩ := Nat.exists_eq_add_of_le hn
    refine exists_placeAt_of_inBit (r := r) ?_ ((placeInBit_setup hr.symm hc).trans ?_) ?_
    · unfold bitPeriod; omega
    · rw [State.place, hp]
    · simp only [ticksLeft, hp, bitPeriod]; omega
  | chigh =>
    obtain ⟨_, _, _, hc, hn⟩ := (driverInv_iff_of_chigh hp).1 hi
    obtain ⟨r, hr⟩ := Nat.exists_eq_add_of_le hn
    refine exists_placeAt_of_inBit ?_ ((placeInBit_chigh hr.symm hc).trans ?_) ?_
    · unfold bitPeriod; omega
    · rw [State.place, hp]
    · simp only [ticksLeft, hp, bitPeriod]; omega
  | clow =>
    obtain ⟨_, _, _, hc, hn⟩ := (driverInv_iff_of_clow hp).1 hi
    obtain ⟨r, hr⟩ := Nat.exists_eq_add_of_le hn
    refine exists_placeAt_of_inBit ?_ ((placeInBit_clow hr.symm).trans ?_) ?_
    · unfold bitPeriod; omega
    · rw [State.place, hp]
    · simp only [ticksLeft, hp, bitPeriod]; omega
  | lhigh =>
    obtain ⟨_, _, _, ⟨hc, hn⟩, hb⟩ := (driverInv_iff_of_lhigh hp).1 hi
    obtain ⟨r, hr⟩ := Nat.exists_eq_add_of_le hn
    refine ⟨_, ?_, (placeAt_inLatch _).trans ((placeInLatch_lhigh hr.symm hc).trans ?_)⟩
    · simp only [ticksLeft, hp, renderTicks]; omega
    · simp [State.place, hp, hb]
  | lfinal =>
    obtain ⟨_, _, _, ⟨hc, hn⟩, hb⟩ := (driverInv_iff_of_lfinal hp).1 hi
    obtain ⟨r, hr⟩ := Nat.exists_eq_add_of_le hn
    refine ⟨_, ?_, (placeAt_inLatch _).trans ((placeInLatch_lfinal hr.symm hc).trans ?_)⟩
    · simp only [ticksLeft, hp, renderTicks]; omega
    · simp [State.place, hp, hb]

theorem ticksLeft_pos_iff {s : State} (hi : DriverInv s) : 0 < ticksLeft s ↔ s.ph ≠ .idle :=
  ⟨ph_ne_idle_of_ticksLeft_pos, ticksLeft_pos hi⟩

theorem ph_eq_idle_of_no_ticksLeft {s : State} (hi : DriverInv s) (h : ticksLeft s = 0) : s.ph = .idle :=
  not_not.1 fun hp => (ticksLeft_pos hi hp).ne' h

theorem undisturbedFor_mono {s : State} {m n : Nat} (h : UndisturbedFor s n) (hm : m ≤ n) : UndisturbedFor s m := by
  obtain ⟨hl, hp⟩ := h
  exact ⟨hm.trans hl, fun p hmem => hp p (List.take_subset_take_left _ hm hmem)⟩

/-- Settles O43: as many ticks as the state has left, and the timeline bounds them by `D`. -/
theorem busyBlockBecomesReady : Obligations.BusyBlockBecomesReady := by
  intro s hi hu
  obtain ⟨j, hj, _⟩ := exists_placeAt_of_driverInv hi
  have hle : ticksLeft s ≤ renderTicks s.cfg.config := by omega
  obtain ⟨t, hrun, hleft, hit, _⟩ := run_busyTicks (sameRender_keptByBusyTicks s) (Nat.le_refl _) hi
    (undisturbedFor_mono hu hle) ⟨rfl, rfl, rfl, rfl⟩
  exact ⟨_, hle, t, hrun, t.cmdReady_eq_true.2 (ph_eq_idle_of_no_ticksLeft hit (by omega))⟩

/-- The timeline says where each busy tick of a render stands, and where it ends. -/
theorem place_at_busyTick {s : State} {fr : Frame} {j : Nat} (h : AcceptsFrame s fr)
    (hj : j ≤ renderTicks s.cfg.config) (hu : UndisturbedFor s (1 + j)) :
    ∃ t, Host.Core.run core (1 + j) s = .next t ∧ t.busy = decide (j < renderTicks s.cfg.config) ∧
      t.place = placeAt s.cfg.config j ∧ t.fr = fr ∧ DriverInv t := by
  obtain ⟨t, hrun, hleft, hit, ⟨hfr, hcfg, _⟩, _⟩ :=
    run_of_acceptsFrame (sameRender_keptByBusyTicks (acceptedState s fr)) h hj hu ⟨rfl, rfl, rfl, rfl⟩
  have hcfg' : t.cfg = s.cfg := hcfg
  obtain ⟨i, hi, hplace⟩ := exists_placeAt_of_driverInv hit
  rw [hcfg'] at hi hplace
  have hij : i = j := by omega
  refine ⟨t, hrun, decide_eq_decide.2 ?_, by rw [← hplace, hij], hfr, hit⟩
  rw [← ticksLeft_pos_iff hit]
  omega

/-- Settles O41: the place of each tick is that of the ticks left; the default numbers by R9's values. -/
theorem renderFollowsTheTimeline : Obligations.RenderFollowsTheTimeline := by
  constructor
  · intro s fr h hu j hj
    obtain ⟨t, hrun, hbusy, hplace, hfr, hit⟩ := place_at_busyTick h hj (undisturbedFor_mono hu (by omega))
    rw [← hplace]
    exact ⟨t, hrun, hbusy, rfl, rfl, rfl, hfr, hit⟩
  · intro c hhalf hsetup hsettle hhigh hfinal
    simp [renderTicks, bitPeriod, hhalf, hsetup, hsettle, hhigh, hfinal]

/-! ## The measures of the trace (41_serial_line_driver.md R107) -/

@[simp] theorem lineEventCount_toLine (X : Line) (v : LineState) (es : List Event) :
    lineEventCount (Event.toLine X v :: es) = lineEventCount es + 1 := by cases v <;> rfl

@[simp] theorem holdCount_toLine (X : Line) (v : LineState) (es : List Event) :
    holdCount (Event.toLine X v :: es) = holdCount es := by cases v <;> rfl

@[simp] theorem holdTotal_toLine (X : Line) (v : LineState) (es : List Event) :
    holdTotal (Event.toLine X v :: es) = holdTotal es := by cases v <;> rfl

/-- The events of a render from the period of bit `k` on. -/
def eventsFromBit (c : Config) (fr : Frame) (k : Nat) : List Event :=
  (List.range' k (16 - k)).flatMap (bitEvents c fr) ++ latchPulseEvents c ++ [.z .data, .z .clock]

theorem eventsFromBit_of_lt (c : Config) (fr : Frame) {k : Nat} (h : k < 16) :
    eventsFromBit c fr k = bitEvents c fr k ++ eventsFromBit c fr (k + 1) := by
  have : 16 - k = 16 - (k + 1) + 1 := by omega
  rw [eventsFromBit, this, List.range'_succ, List.flatMap_cons]
  simp only [eventsFromBit, List.append_assoc]

theorem eventsFromBit_last (c : Config) (fr : Frame) :
    eventsFromBit c fr 16 = latchPulseEvents c ++ [.z .data, .z .clock] := rfl

theorem renderEvents_eq (c : Config) (fr : Frame) :
    renderEvents c fr = .low .latch :: .hold c.tLSettle :: eventsFromBit c fr 0 := by
  simp only [renderEvents, eventsFromBit, List.range_eq_range', List.append_assoc]
  rfl

/-- A measure that grows by `n` with each bit. -/
theorem measure_eventsFromBit {f : List Event → Nat} {c : Config} {fr : Frame} {n : Nat}
    (h : ∀ k es, f (bitEvents c fr k ++ es) = n + f es) {k : Nat} (hk : k ≤ 16) :
    f (eventsFromBit c fr k) = (16 - k) * n + f (eventsFromBit c fr 16) := by
  induction hk using Nat.decreasingInduction with
  | self => simp
  | of_succ k hk ih =>
    rw [eventsFromBit_of_lt c fr hk, h, ih, show 16 - k = 16 - (k + 1) + 1 by omega, Nat.add_one_mul]
    omega

theorem lineEventCount_renderEvents (c : Config) (fr : Frame) : lineEventCount (renderEvents c fr) = 55 := by
  have hbit : ∀ k es, lineEventCount (bitEvents c fr k ++ es) = 3 + lineEventCount es := by
    intro k es
    simp only [bitEvents, pulseClockEvents, List.cons_append, List.nil_append, lineEventCount_toLine, lineEventCount]
    omega
  rw [renderEvents_eq, lineEventCount, lineEventCount, measure_eventsFromBit hbit (Nat.zero_le _)]
  rfl

theorem holdCount_renderEvents (c : Config) (fr : Frame) : holdCount (renderEvents c fr) = 51 := by
  have hbit : ∀ k es, holdCount (bitEvents c fr k ++ es) = 3 + holdCount es := by
    intro k es
    simp only [bitEvents, pulseClockEvents, List.cons_append, List.nil_append, holdCount_toLine, holdCount]
    omega
  rw [renderEvents_eq, holdCount, holdCount, measure_eventsFromBit hbit (Nat.zero_le _)]
  rfl

theorem holdTotal_renderEvents (c : Config) (fr : Frame) : holdTotal (renderEvents c fr) = renderTicks c := by
  have hbit : ∀ k es, holdTotal (bitEvents c fr k ++ es) = bitPeriod c + holdTotal es := by
    intro k es
    simp only [bitEvents, pulseClockEvents, List.cons_append, List.nil_append, holdTotal_toLine, holdTotal, bitPeriod]
    omega
  rw [renderEvents_eq, holdTotal, holdTotal, measure_eventsFromBit hbit (Nat.zero_le _)]
  simp only [eventsFromBit_last, latchPulseEvents, List.cons_append, List.nil_append, holdTotal, renderTicks]
  omega

/-! ## The trace played (41_serial_line_driver.md R107) -/

/-- The Line States while a trace is played from `l`, and at last those it ends in. -/
def playback (es : List Event) (l : Lines) : List Lines := play es l ++ [playEnd es l]

theorem length_play (es : List Event) (l : Lines) : (play es l).length = holdTotal es := by
  induction es generalizing l with
  | nil => rfl
  | cons e es ih => cases e <;> simp [play, holdTotal, ih]

theorem playback_hold (n : Nat) (es : List Event) (l : Lines) :
    playback (.hold n :: es) l = List.replicate n l ++ playback es l := List.append_assoc _ _ _

theorem playback_toLine (X : Line) (v : LineState) (es : List Event) (l : Lines) :
    playback (Event.toLine X v :: es) l = playback es (l.set X v) := by cases v <;> rfl

theorem getElem?_play {es : List Event} {l : Lines} {j : Nat} (h : j < holdTotal es) :
    (play es l)[j]? = (playback es l)[j]? := by
  rw [playback, List.getElem?_append_left (by rwa [length_play])]

theorem getElem?_playback_holdTotal (es : List Event) (l : Lines) :
    (playback es l)[holdTotal es]? = some (playEnd es l) := by
  rw [← length_play es l, playback, List.getElem?_concat_length]

/-- The events of the render after the hold of the current phase. -/
def eventsAfterHold (s : State) : List Event :=
  match s.ph with
  | .idle => []
  | .lsettle => eventsFromBit s.cfg.config s.fr 0
  | .setup => pulseClockEvents s.cfg.config ++ eventsFromBit s.cfg.config s.fr (s.bit.val + 1)
  | .chigh => .low .clock :: .hold s.cfg.config.tHalf :: eventsFromBit s.cfg.config s.fr (s.bit.val + 1)
  | .clow => eventsFromBit s.cfg.config s.fr (s.bit.val + 1)
  | .lhigh => [.low .latch, .hold s.cfg.config.tLFinal, .z .latch, .z .data, .z .clock]
  | .lfinal => [.z .latch, .z .data, .z .clock]

/-- What is still to be played in a state: the rest of its hold, and the events after it. -/
def playbackFrom (s : State) : List Lines := playback (.hold s.cnt :: eventsAfterHold s) s.lines

theorem head?_playbackFrom {s : State} (hi : DriverInv s) : (playbackFrom s).head? = some s.lines := by
  by_cases hp : s.ph = .idle
  · obtain ⟨_, _, hc, _⟩ := (driverInv_iff_of_idle hp).1 hi
    simp [playbackFrom, eventsAfterHold, hp, hc, playback, play, playEnd]
  · obtain ⟨n, hn⟩ := Nat.exists_eq_add_of_le' (one_le_cnt_of_driverInv hi hp)
    simp [playbackFrom, playback_hold, hn, List.replicate_succ]

theorem tail_playbackFrom {s : State} {n : Nat} (h : s.cnt = n + 1) :
    (playbackFrom s).tail = playback (.hold n :: eventsAfterHold s) s.lines := by
  simp [playbackFrom, playback_hold, h, List.replicate_succ]

/-- The period of a bit begins with DATA set, and then holds for the setup delay. -/
theorem playback_eventsFromBit (c : Config) (fr : Frame) {k : Nat} (hk : k < 16) (l : Lines) :
    playback (eventsFromBit c fr k) l =
      playback (.hold c.tSetup :: (pulseClockEvents c ++ eventsFromBit c fr (k + 1)))
        (l.set .data (dataState c.pol (frameBit fr k))) := by
  rw [eventsFromBit_of_lt c fr hk]
  exact playback_toLine _ _ _ _

theorem playback_beginBits {s : State} (hb : s.bit = 0) :
    playback (eventsFromBit s.cfg.config s.fr 0) s.lines = playbackFrom (beginBits s) := by
  have hbit : (beginBits s).bit = 0 := hb
  rw [playback_eventsFromBit _ _ (by decide), playbackFrom, eventsAfterHold, hbit]
  rfl

theorem playback_nextBit (s : State) :
    playback (eventsFromBit s.cfg.config s.fr (s.bit.val + 1)) s.lines = playbackFrom (nextBit s) := by
  by_cases hb : s.bit.val < 15
  · rw [nextBit_of_lt hb, playback_eventsFromBit _ _ (by omega)]
    rfl
  · rw [nextBit_of_last hb, show s.bit.val + 1 = 16 by omega, eventsFromBit_last]
    rfl

/-- ADVANCE does to the lines what the events up to the next hold do, and that hold is the next phase's. -/
theorem playback_advance {s : State} (hi : DriverInv s) (hp : s.ph ≠ .idle) :
    playback (eventsAfterHold s) s.lines = playbackFrom (advance s) := by
  rw [eventsAfterHold, advance]
  cases hq : s.ph with
  | idle => exact absurd hq hp
  | lsettle =>
    obtain ⟨_, _, _, _, hb⟩ := (driverInv_iff_of_lsettle hq).1 hi
    exact playback_beginBits hb
  | clow => exact playback_nextBit s
  | setup | chigh | lhigh | lfinal => rfl

/-! ## The machine plays the trace -/

theorem lines_of_idleState {s : State} (h : IdleState s) : s.lines = Lines.released := by
  obtain ⟨_, _, _, hclock, hdata, hlatch⟩ := h
  simp only [State.lines, Lines.released, hclock, hdata, hlatch]

/-- With as many of `d` ticks left as `s` has, what `s` still has to play is the rest of `ls`. -/
def PlaysRestOf (ls : List Lines) (d : Nat) (s : State) : Prop :=
  ∃ j, j + ticksLeft s = d ∧ ls.drop j = playbackFrom s

theorem playsRestOf_next {ls : List Lines} {d : Nat} {s t : State} (h : PlaysRestOf ls d s)
    (hleft : ticksLeft t + 1 = ticksLeft s) (htail : (playbackFrom s).tail = playbackFrom t) : PlaysRestOf ls d t := by
  obtain ⟨j, hj, hdrop⟩ := h
  exact ⟨j + 1, by omega, by rw [← htail, ← hdrop, List.tail_drop]⟩

theorem playsRestOf_keptByBusyTicks (ls : List Lines) (d : Nat) : KeptByBusyTicks (PlaysRestOf ls d) := by
  intro s hi hp h
  constructor
  · intro hc
    exact playsRestOf_next h (ticksLeft_countDown hp hc) (tail_playbackFrom (n := s.cnt - 1) (by omega))
  · intro hc
    have htail := (tail_playbackFrom hc).trans (playback_advance hi hp)
    exact playsRestOf_next h (ticksLeft_advance hi hp hc) htail

/-- After an accept the whole trace is to be played: its first event, LATCH driven low, is the accept's. -/
theorem playsRestOf_acceptedState {s : State} {fr : Frame} (h : AcceptsFrame s fr) :
    PlaysRestOf (playback (renderEvents s.cfg.config fr) Lines.released) (renderTicks s.cfg.config)
      (acceptedState s fr) := by
  obtain ⟨hidle, _⟩ := h
  have hlines : (acceptedState s fr).lines = Lines.released.set .latch .low := by
    rw [← lines_of_idleState hidle]
    rfl
  refine ⟨0, (Nat.zero_add _).trans (ticksLeft_startRender s fr), ?_⟩
  rw [List.drop_zero, renderEvents_eq, playbackFrom, hlines]
  rfl

theorem lines_at_busyTick {s : State} {fr : Frame} {j : Nat} (h : AcceptsFrame s fr)
    (hj : j ≤ renderTicks s.cfg.config) (hu : UndisturbedFor s (1 + j)) :
    ∃ t, Host.Core.run core (1 + j) s = .next t ∧ ticksLeft t + j = renderTicks s.cfg.config ∧ DriverInv t ∧
      (playback (renderEvents s.cfg.config fr) Lines.released)[j]? = some t.lines := by
  obtain ⟨t, hrun, hleft, hit, _, i, hi, hdrop⟩ :=
    run_of_acceptsFrame (playsRestOf_keptByBusyTicks _ _) h hj hu (playsRestOf_acceptedState h)
  have hij : i = j := by omega
  exact ⟨t, hrun, hleft, hit, by rw [← List.head?_drop, ← hij, hdrop, head?_playbackFrom hit]⟩

/-- Settles O42: each busy tick plays the head of what is left of the trace, and the idle state has its end. -/
theorem renderProducesTheTrace : Obligations.RenderProducesTheTrace := by
  refine ⟨fun c fr => ⟨lineEventCount_renderEvents c fr, holdCount_renderEvents c fr, holdTotal_renderEvents c fr⟩,
    fun s fr h hu => ⟨fun j hj => ?_, ?_⟩⟩
  · obtain ⟨t, hrun, _, _, hlines⟩ := lines_at_busyTick h hj.le (undisturbedFor_mono hu (by omega))
    exact ⟨t, hrun, (getElem?_play (by rwa [holdTotal_renderEvents])).trans hlines⟩
  · obtain ⟨t, hrun, hleft, hit, hlines⟩ := lines_at_busyTick h (Nat.le_refl _) hu
    rw [← holdTotal_renderEvents _ fr, getElem?_playback_holdTotal] at hlines
    have hidle := (driverInv_iff_of_idle (ph_eq_idle_of_no_ticksLeft hit (by omega))).1 hit
    exact ⟨t, hrun, (Option.some.inj hlines).symm, lines_of_idleState hidle⟩

end Sys2Proof.Machine
end

section
/-! PROOFS. Family 60_exceptions.md: the reject causes (R130), the tick of a reject (R134), and HOST's duties (R139). -/

namespace Sys2Proof.Machine

open Safety

/-! ## The reject (60_exceptions.md R130, R134) -/

/-- A reject writes the record only, and keeps the first cause. -/
theorem raiseReject_eq (s : State) (c : Cause) :
    s.raiseReject c = { s with fault := true, cause := if s.fault = true then s.cause else c.number } := by
  rw [raiseReject_eq_ite]
  cases hf : s.fault
  · simp
  · simp [← hf]

/-- Settles O20: the words of each cause are an interval, and its ends are the `OP` and the operand bounds R130 gives. -/
theorem rejectCausesAreComplete : Obligations.RejectCausesAreComplete := by
  intro af w
  have haf := af.count_le
  have hw := toNat_eq_fields w
  have hop := (opField w).isLt
  have harg := (argField w).isLt
  simp only [decodeCommand_eq_error_iff, toInt_out_of_range_iff, firstRejected, endRejected]
  refine ⟨?_, ?_, ?_, ?_, ?_, raiseReject_eq, rfl, rfl, rfl, rfl⟩
  · bv_omega
  · bv_omega
  · bv_omega
  · bv_omega
  · rintro (h | h)
    · exact ⟨_, decodeCommand_of_op_blank h⟩
    · exact ⟨_, decodeCommand_of_op_dashes h⟩

/-- Settles O21: an illegal word to an idle block only raises its reject, and that leaves the phase as it is. -/
theorem rejectTakesOneTick : Obligations.RejectTakesOneTick := by
  intro s w c hp h
  have hi := issueWord_of_decodeCommand_error hp h
  refine ⟨fun hf => ?_, fun hf => ?_, fun t ht => ?_⟩
  · rw [hi, raiseReject_eq_ite, if_pos hf]
  · rw [hi, raiseReject_eq_ite, if_neg (by simp [hf])]
  · rw [hi] at ht
    cases ht
    simp [hp]

/-! ## HOST's duties (60_exceptions.md R139) -/

/-- A reject found recorded after a step was recorded before it, or the step rejected a word offered to an idle block. -/
theorem step_fault_cases {s t : State} (h : step s = .next t) (hf : t.fault = true) :
    s.fault = true ∨
      (s.ph = .idle ∧ s.input.cmdValid = true ∧ ∃ c, decodeCommand s.cfg.config.af s.input.cmd = .error c) := by
  obtain ⟨u, rfl, hu⟩ := step_cases h
  rcases hu with ⟨_, rfl⟩ | ⟨_, rfl, _⟩ | ⟨_, hp, hv, c, hd, rfl⟩ | ⟨_, _, _, _, _, _, _, rfl⟩ |
      ⟨_, _, _, rfl⟩ | ⟨_, _, _, rfl⟩
  · simp at hf
  · exact .inl hf
  · exact .inr ⟨hp, hv, c, hd⟩
  · exact .inl hf
  · exact .inl hf
  · obtain ⟨_, hkept, _⟩ := advance_keeps s
    exact .inl (hkept.symm.trans hf)

/-- The receiver's contents become unknown at a reset during a render only (70_reset_and_hazards.md R158). -/
theorem step_rxUnknown_cases {s t : State} (h : step s = .next t) (hu : t.rxUnknown = true) :
    s.rxUnknown = true ∨ (s.input.rst = true ∧ s.ph ≠ .idle) := by
  obtain ⟨u, rfl, _⟩ := step_cases h
  rw [aroundEdge_rxUnknown, unknownAfter] at hu
  split_ifs at hu with hbroken
  · exact .inr hbroken
  · exact .inl hu

/-- Settles O27: each duty excludes the one step that could break its half of the statement. -/
theorem dutifulHostIsNeverRejected : Obligations.DutifulHostIsNeverRejected := by
  rintro s t ⟨hreset, hlegal⟩ h
  refine ⟨fun hf => ?_, fun hu => ?_⟩
  · rcases step_fault_cases h hf with hs | ⟨hp, hv, c, hc⟩
    · exact hs
    · obtain ⟨i, hi⟩ := hlegal hv (s.busy_eq_false.2 hp)
      rw [hi] at hc
      cases hc
  · rcases step_rxUnknown_cases h hu with hs | ⟨hr, hp⟩
    · exact hs
    · exact absurd (s.busy_eq_false.1 (hreset hr)) hp

end Sys2Proof.Machine
end

section
/-! PROOFS. Family 70_reset_and_hazards.md: reset at any edge (R150), and the receiver's contents after a reset during a render
(R158). -/

namespace Sys2Proof.Machine

/-! ## Reset (70_reset_and_hazards.md R150) -/

/-- Reset has priority over every other case, and does not wait for `tick`. -/
theorem step_of_rst {s : State} (hr : s.input.rst = true) : step s = .next (aroundEdge true s (resetDriver s)) := by
  have he : edgeStep s.input s = .next (resetDriver s) := by
    rw [edgeStep_eq, if_pos (.inl hr), driverStep_of_rst _ s hr]
  exact (step_next_iff _ _).2 ⟨_, he, by rw [hr]⟩

/-- Settles O31: such a step is the driver's RESET with the receiver's boundary around it. -/
theorem resetAtAnyEdge : Obligations.ResetAtAnyEdge := fun _ hr =>
  ⟨_, step_of_rst hr, rfl, rfl, rfl, rfl, rfl, rfl, rfl, rfl, rfl, rfl⟩

/-! ## The end of a render -/

/-- ADVANCE ends a render out of `LFINAL` only (41_serial_line_driver.md R108). -/
theorem ph_of_advance_idle {s : State} (hp : s.ph ≠ .idle) (h : (advance s).ph = .idle) : s.ph = .lfinal := by
  cases hq : s.ph with
  | idle => exact absurd hq hp
  | lsettle => rw [advance_of_lsettle hq] at h; cases h
  | setup => rw [advance_of_setup hq] at h; cases h
  | chigh => rw [advance_of_chigh hq] at h; cases h
  | clow =>
    rw [advance_of_clow hq] at h
    by_cases hb : s.bit.val < 15
    · rw [nextBit_of_lt hb] at h; cases h
    · rw [nextBit_of_last hb] at h; cases h
  | lhigh => rw [advance_of_lhigh hq] at h; cases h
  | lfinal => rfl

/-- Without reset a render ends at FINISH only. -/
theorem ph_of_render_over {s t : State} (h : step s = .next t) (hr : s.input.rst = false) (hp : s.ph ≠ .idle)
    (ht : t.ph = .idle) : s.ph = .lfinal := by
  obtain ⟨u, rfl, hu⟩ := step_cases h
  rcases hu with ⟨hrst, _⟩ | ⟨_, rfl, _⟩ | ⟨_, hidle, _⟩ | ⟨_, hidle, _⟩ | ⟨_, _, _, rfl⟩ | ⟨_, _, _, rfl⟩
  · simp [hr] at hrst
  · exact absurd ht hp
  · exact absurd hidle hp
  · exact absurd hidle hp
  · exact absurd ht hp
  · exact ph_of_advance_idle hp ht

/-! ## Unknown contents (70_reset_and_hazards.md R158) -/

/-- Whether the contents are unknown is settled by the step's reset and the phases at its two ends. -/
theorem step_rxUnknown_eq {s t : State} (h : step s = .next t) : t.rxUnknown = unknownAfter s.input.rst s t := by
  obtain ⟨u, rfl, _⟩ := step_cases h
  rfl

theorem unknownAfter_of_brokenRender {old : State} (new : State) (hp : old.ph ≠ .idle) :
    unknownAfter true old new = true := if_pos ⟨rfl, hp⟩

/-- Unknown contents stay unknown unless a render ends without reset. -/
theorem unknownAfter_of_unknown {rst : Bool} {old new : State} (hu : old.rxUnknown = true)
    (hd : ¬(rst = false ∧ old.ph ≠ .idle ∧ new.ph = .idle)) : unknownAfter rst old new = true := by
  rw [unknownAfter, if_neg hd, hu, ite_self]

theorem receiverContents_of_unknown {s : State} (h : s.rxUnknown = true) :
    s.receiverContents = (Config.srWhenUnknown s.draws, Config.outWhenUnknown s.draws) := if_pos h

theorem receiverContents_of_known {s : State} (h : s.rxUnknown = false) : s.receiverContents = (s.rx.sr, s.rx.out) :=
  if_neg (by simp [h])

/-- Settles O47: a step that ends a render without reset is FINISH, so no other step makes unknown contents known. -/
theorem brokenRenderLeavesDisplayUnknown : Obligations.BrokenRenderLeavesDisplayUnknown := by
  intro s t h
  have hrx := step_rxUnknown_eq h
  refine ⟨fun hr hb => ?_, fun hu hd => ?_, receiverContents_of_unknown, receiverContents_of_known⟩
  · rw [hrx, hr]
    exact unknownAfter_of_brokenRender t (s.busy_eq_true.1 hb)
  · rw [hrx]
    refine unknownAfter_of_unknown hu ?_
    rintro ⟨hr, hp, ht⟩
    exact hd ⟨hr, ph_of_render_over h hr hp ht, ht⟩

end Sys2Proof.Machine
end
